-- ==== Sys2Proof/Word.lean ====
section
/-! DEFINITION. The word types of the cell ring (11.1) and the four-station family. -/

namespace Sys2Proof

/-- One byte of a frame. -/
abbrev Byte := BitVec 8

/-- A u16 field: length, check, angle count. -/
abbrev Half := BitVec 16

/-- A u32 field: cycle number, cycle stamp. -/
abbrev Word := BitVec 32

/-- A station number, 0-3 (0.7.2). -/
abbrev StNo := Fin 4

/-- One value for each of the four stations. -/
structure Quad (α : Type) where
  q0 : α
  q1 : α
  q2 : α
  q3 : α
deriving DecidableEq, Repr

/-- The same value for all four stations. -/
def Quad.all {α : Type} (x : α) : Quad α := ⟨x, x, x, x⟩

/-- The value of station `i`. -/
def Quad.get {α : Type} (q : Quad α) (i : StNo) : α :=
  match i with
  | 0 => q.q0
  | 1 => q.q1
  | 2 => q.q2
  | 3 => q.q3

/-- The family with station `i`'s value replaced. -/
def Quad.set {α : Type} (q : Quad α) (i : StNo) (x : α) : Quad α :=
  match i with
  | 0 => { q with q0 := x }
  | 1 => { q with q1 := x }
  | 2 => { q with q2 := x }
  | 3 => { q with q3 := x }

/-- The four values in station order. -/
def Quad.toList {α : Type} (q : Quad α) : List α := [q.q0, q.q1, q.q2, q.q3]

/-- The station numbers in station order 0 to 3. -/
def allStations : List StNo := [0, 1, 2, 3]

end Sys2Proof
end

