-- ==== Sys2Proof/Syntax.lean ====
section
/-! DEFINITION. The commands of the block: one constructor for each row of spec/opcode_table.json. -/

namespace Sys2Proof

/-- A frame as received whole or as sent (R177): header fields, payload bytes, check.
`payload` holds the bytes received, which need not be as many as `length` says (R1). -/
structure Frame where
  dest : Byte
  src : Byte
  kind : Byte
  seq : Byte
  length : Half
  payload : List Byte
  check : Half
deriving DecidableEq, Repr

/-- The commands. A request command is the execution of the oldest WAITING entry of the request
queue (R23): its kind, force mark and body are the entry's, so it carries no operand. A command of a
station's step names the station. -/
inductive Instr where
  /-- POWER_ON_RESET (R10). -/
  | powerOnReset (straps : BitVec 5)
  /-- FRAME_RECEIVED (R2). -/
  | frameReceived (f : Frame)
  /-- FLYWHEEL_EXPIRY (R12). -/
  | flywheelExpiry
  /-- LOSS_OF_SYNC (R15). -/
  | lossOfSync (node : Nat)
  /-- TRANSMISSION_END (R7). -/
  | transmissionEnd
  /-- FEEDBACK_LOST (R100). -/
  | feedbackLost (i : StNo)
  /-- SPEED_DEVIATION (R91). -/
  | speedDeviation (i : StNo)
  /-- TORQUE_LIMIT (R92). -/
  | torqueLimit (i : StNo)
  /-- RAMP_DONE (R93). -/
  | rampDone (i : StNo)
  /-- SPEED_NOT_REACHED (R93). -/
  | speedNotReached (i : StNo)
  /-- DWELL_DONE (R94). -/
  | dwellDone (i : StNo)
  /-- LEAK_WAIT_TIMEOUT (R96). -/
  | leakWaitTimeout (i : StNo)
  /-- RUNAWAY (R64). -/
  | runaway (i : StNo)
  /-- STOP_COMPLETE (R79). -/
  | stopComplete (i : StNo)
  /-- STOP_TIMEOUT (R80). -/
  | stopTimeout (i : StNo)
  /-- PULSE_END (R171). -/
  | pulseEnd (i : StNo)
  /-- RECOVERY_END (R171). -/
  | recoveryEnd (i : StNo)
  /-- WINDOW_CLOSE (R107). -/
  | windowClose (i : StNo)
  /-- SLOW (R106). -/
  | slow (i : StNo)
  /-- LISTEN_CUT_OFF (R125). -/
  | listenCutOff (i : StNo)
  /-- LISTEN_TIME_LIMIT (R126). -/
  | listenTimeLimit (i : StNo)
  /-- FILL (R137). -/
  | fill (i : StNo)
  /-- SUPPLY_WAIT_LIMIT (R136). -/
  | supplyWaitLimit (i : StNo)
  /-- SETTLE (R137). -/
  | settle (i : StNo)
  /-- GROSS_LEAK (R137). -/
  | grossLeak (i : StNo)
  /-- MEASURE (R138). -/
  | measure (i : StNo)
  /-- START_BLOCK (R141). -/
  | startBlock (i : StNo)
  /-- END_BLOCK (R142). -/
  | endBlock (i : StNo)
  /-- DISTURBED (R141). -/
  | disturbed (i : StNo)
  /-- VENT_DONE (R146). -/
  | ventDone (i : StNo)
  /-- VENT_TIMEOUT (R146). -/
  | ventTimeout (i : StNo)
  /-- BAD_KIND (R24). -/
  | badKind
  /-- STATUS (R33). -/
  | status
  /-- LOAD_VARIANT (R37). -/
  | loadVariant
  /-- LOAD_RECIPE (R40). -/
  | loadRecipe
  /-- LOAD_LIMITS (R42). -/
  | loadLimits
  /-- LOAD_ANGLE (R43). -/
  | loadAngle
  /-- DELETE_ENTRY (R46). -/
  | deleteEntry
  /-- READ_ENTRY (R47). -/
  | readEntry
  /-- SET_STATION (R48). -/
  | setStation
  /-- READ_STATION (R49). -/
  | readStation
  /-- SET_CELL (R50). -/
  | setCell
  /-- READ_CELL (R51). -/
  | readCell
  /-- READ_COUNTERS (R19). -/
  | readCounters
  /-- ADMIT (R60). -/
  | admitAxle
  /-- SET_RUN_MODE (R70). -/
  | setRunMode
  /-- RESUME (R72). -/
  | resume
  /-- ABORT (R78). -/
  | abort
  /-- READ_REPORT (R164). -/
  | readReport
  /-- RELEASE_REPORT (R165). -/
  | releaseReport
  /-- CLEAR_REJECT (R173). -/
  | clearReject
  /-- CLEAR_LINE_STOP (R175). -/
  | clearLineStop
  /-- CELL_RESET (R34). -/
  | cellReset
deriving DecidableEq, Repr

end Sys2Proof
end

