-- ==== Sys2Proof/Decode.lean ====
section
/-! DEFINITION. The command that a word spells by the bits of spec/opcode_table.json. -/

namespace Sys2Proof

/-- No row of the table gives bits (every row's `fields` is empty and none has `fixed`), so no word
spells a command. Frames are read by Machine/Operands.lean, from Chapter 11. -/
def decodeTableWord (_nbits _w : Nat) : Option Instr := none

end Sys2Proof
end

