-- ==== Sys2Proof/Config.lean ====
section
/-! DEFINITION. The fixed sizes and limits of the part (0.8 Numbers at a glance and the rules named).
No value of the machine is left open by the spec, so no constant here is without a body. -/

namespace Sys2Proof.Config

/-- Frames the forwarding buffer holds (R3). -/
def bufferSize : Nat := 4
/-- Entries of the request queue (R22). -/
def queueSize : Nat := 4
/-- Replies one reply part takes (R6). -/
def repliesPerWindow : Nat := 2
/-- Largest payload of a good frame (R1). -/
def maxPayload : Nat := 1024
/-- Where a 16-bit counter stops (R18, R168). -/
def counterTop : Nat := 65535
/-- Where a 32-bit timer or figure stops (4.1, 8.1, R101). -/
def timerTop : Nat := 4294967295
/-- Nodes with a head entry, 1 to this (1.8). -/
def nodes : Nat := 30
/-- Variant slots (3.1). -/
def variantSlots : Nat := 64
/-- Recipes (3.1). -/
def recipeCount : Nat := 48
/-- Limit sets (3.1). -/
def limitSetCount : Nat := 32
/-- Angle tables (3.1). -/
def angleTableCount : Nat := 4
/-- Record slots (R153). -/
def recordSlots : Nat := 16
/-- Executed-segment count at which RUNAWAY is found (R64). -/
def runawayCount : Nat := 256
/-- Largest call-chain depth (R67). -/
def chainDepth : Nat := 4
/-- Largest E·N (R63). -/
def maxWindow : Nat := 16384
/-- T_s at which a window is SLOW (R106). -/
def slowCount : Nat := 65536
/-- Stored segment results (R157). -/
def maxSegResults : Nat := 64
/-- Stored order results (R158). -/
def maxOrderResults : Nat := 32
/-- Distinct defect codes stored (R159). -/
def maxDefects : Nat := 8
/-- Bytes of a report chunk (R164). -/
def chunkSize : Nat := 512
/-- Reject triggers that may wait (R170). -/
def maxPending : Nat := 4
/-- Largest feedback run (5.1). -/
def maxFeedback : Nat := 50
/-- Largest stop timer and dwell count (4.1, 5.1). -/
def longCount : Nat := 10000000

end Sys2Proof.Config
end

