-- ==== Sys2Proof/Machine/Records.lean ====
section
/-! DEFINITION. The records of the blocks: the enumerations of 11.6 and the state tables of Chapters 1
to 10, as plain data. -/

namespace Sys2Proof.Machine

/-! ### Ring port, timebase, sample intake (Chapter 1) -/

/-- What a frame in transmission on the downstream side is (R3, R5). -/
inductive SentKind where
  | forwarded
  | setpoint
  | reply
deriving DecidableEq, Repr

/-- The frame in transmission. -/
structure Transmission where
  what : SentKind
  frame : Frame
deriving DecidableEq, Repr

/-- An open transmit window (R6): the stations whose SETPOINT frames are left with the destination
taken when the list was formed (R48), and the reply part: `none` until it is taken, then how many of
its replies are left. -/
structure Window where
  setpoints : List (StNo × Nat)
  replies : Option Nat
deriving DecidableEq, Repr

/-- The ring port RP. -/
structure RingPort where
  addr : Byte
  buffer : List Frame
  tx : Option Transmission
  window : Option Window
  ownSeq : Byte
  checkErrors : Nat
  misdirected : Nat
  returned : Nat
  forwardDrops : Nat
  overruns : Nat
deriving DecidableEq, Repr

/-- The timebase TB (R11, R12). `running` is the flywheel timer, stopped until the first CYCLE. -/
structure Timebase where
  cycle : Word
  running : Bool
  slips : Nat
  flywheels : Nat
deriving DecidableEq, Repr

inductive HeadState where
  | unsynced
  | synced
deriving DecidableEq, Repr

/-- One item for each of the six slow slots, in the order of the slow marks (11.2). -/
structure Slow (α : Type) where
  speed : α
  torque : α
  housing : α
  airTemp : α
  oil : α
  supply : α
deriving DecidableEq, Repr

/-- A slow value of a closed cycle (R16): no value, held, or fresh. -/
inductive Reading where
  | noValue
  | held (v : Int)
  | fresh (v : Int)
deriving DecidableEq, Repr

/-- The view of one head's closed cycle (R16, R140). -/
structure ClosedCycle where
  slots : Slow Reading
  absent : Bool
  signalled : Bool
deriving DecidableEq, Repr

/-- One head entry (1.8). `run` is 3 only while a LOSS_OF_SYNC is due (R15). `signalled` marks a gap
or loss-of-sync signal in the current cycle (R140). -/
structure HeadEntry where
  state : HeadState
  expected : Byte
  run : Nat
  gap : Nat
  outOfOrder : Nat
  resync : Nat
  lastStamp : Word
  values : Slow (Option Int)
  fresh : Slow Bool
  used : Nat
  signalled : Bool
  closed : ClosedCycle
deriving DecidableEq, Repr

/-! ### Loaded tables (Chapter 3) -/

inductive Channel where
  | a
  | b
deriving DecidableEq, Repr

inductive RejectMode where
  | pulse
  | catch
deriving DecidableEq, Repr

/-- A station setup (3.7); a head node of 0 is none. -/
structure Setup where
  driveHead : Nat
  processHead : Nat
  vibrationHead : Nat
  channel : Channel
  angleTable : Nat
  maxSpeed : Nat
  tripSpeed : Nat
  tripTorque : Nat
  maxTorque : Nat
  feedbackTimeout : Nat
  stopRate : Nat
  stopTimeout : Nat
  zeroBand : Nat
  rejectMode : RejectMode
  width : Nat
  recovery : Nat
deriving DecidableEq, Repr

/-- The cell settings (3.8); a supply head of 0 is none. -/
structure CellSettings where
  ambient : Nat
  supplyHead : Nat
  supplyThreshold : Nat
  supplyWait : Nat
  absMaxSpeed : Nat
deriving DecidableEq, Repr

/-- The drive parameters a RAMP, DWELL or LISTEN brings (R39). -/
structure Motion where
  target : Int
  rate : Nat
  band : Nat
  persist : Nat
deriving DecidableEq, Repr

/-- The parameters of a LEAK_START (R39). -/
structure LeakParams where
  fillTarget : Nat
  fillTimeout : Nat
  settle : Nat
  measure : Nat
  averaging : Nat
  holdLimit : Nat
  ventThreshold : Nat
  ventTimeout : Nat
deriving DecidableEq, Repr

/-- What a segment does, by kind, with the parameters of its kind (R39). -/
inductive SegBody where
  | ramp (m : Motion) (torqueCheck timeLimit : Nat)
  | dwell (m : Motion) (torqueCheck duration : Nat)
  | listen (m : Motion) (timeLimit limitSet revolutions maxAttempts : Nat)
  | leakStart (p : LeakParams)
  | leakWait (timeLimit : Nat)
  | call (recipe : Nat)
  | chain (recipe : Nat)
  | finish
deriving DecidableEq, Repr

/-- A segment: the PAUSE flag and its body. `finish` is END. -/
structure Segment where
  pause : Bool
  body : SegBody
deriving DecidableEq, Repr

structure Recipe where
  stopOnFail : Bool
  segments : List Segment
  inUse : Nat
deriving DecidableEq, Repr

structure Variant where
  code : Nat
  recipe : Nat
  volume : Nat
  leakLimit : Nat
  inUse : Nat
deriving DecidableEq, Repr

/-- One limit for each of the four bands. -/
structure BandLimits where
  b0 : Nat
  b1 : Nat
  b2 : Nat
  b3 : Nat
deriving DecidableEq, Repr

structure OrderLine where
  order : Nat
  limits : BandLimits
deriving DecidableEq, Repr

structure LimitSet where
  edge1 : Nat
  edge2 : Nat
  edge3 : Nat
  lines : List OrderLine
  inUse : Nat
deriving DecidableEq, Repr

inductive AngleState where
  | loading
  | present
deriving DecidableEq, Repr

/-- An angle table that is not ABSENT (3.5); its loaded count is the number of values held. -/
structure AngleTable where
  state : AngleState
  e : Nat
  values : List Int
  inUse : Nat
deriving DecidableEq, Repr

/-- The four tables with in-use counts; an absent entry is `none`. -/
structure Library where
  variants : List (Option Variant)
  recipes : List (Option Recipe)
  limits : List (Option LimitSet)
  angles : List (Option AngleTable)
deriving DecidableEq, Repr

/-! ### Test records (Chapter 9) -/

inductive SegKind where
  | ramp
  | dwell
  | listen
  | leakStart
  | leakWait
  | call
  | chain
  | finish
deriving DecidableEq, Repr

inductive SegOutcome where
  | done
  | failed
  | notJudged
  | faulted
  | abandoned
deriving DecidableEq, Repr

structure SegResult where
  recipe : Nat
  index : Nat
  kind : SegKind
  outcome : SegOutcome
  duration : Nat
  maxError : Nat
  maxTorque : Nat
  clamped : Bool
deriving DecidableEq, Repr

/-- A level with its SAT mark (R121). -/
structure Level where
  level : Nat
  sat : Bool
deriving DecidableEq, Repr

inductive OrderVerdict where
  | undecided
  | pass
  | fail
  | notJudged
deriving DecidableEq, Repr

structure OrderResult where
  ordinal : Nat
  order : Nat
  band : Option Nat
  verdict : OrderVerdict
  levels : List Level
  voids : Nat
deriving DecidableEq, Repr

/-- The defect codes, in the order of the class table of 9.3. -/
inductive DefectCode where
  | speedNotReached
  | speedDeviation
  | torqueLimit
  | noiseOrder
  | grossLeak
  | leakRate
  | leakBusy
  | noiseNotJudged
  | orderRange
  | leakNotJudged
  | ventTimeout
  | stopTimeout
  | noRecipe
  | recursion
  | chainDepth
  | noLimits
  | noAngle
  | runaway
  | overspeed
  | overtorque
  | feedbackLost
deriving DecidableEq, Repr

inductive DefectClass where
  | checkFailure
  | judgementGap
  | process
  | fault
  | safety
deriving DecidableEq, Repr

structure DefectEntry where
  code : DefectCode
  ordinal : Nat
  count : Nat
deriving DecidableEq, Repr

inductive LeakOutcome where
  | pass
  | fail
  | notJudged
  | aborted
deriving DecidableEq, Repr

inductive LeakReason where
  | airShort
  | disturbed
  | timeout
  | grossLeak
  | leakRate
deriving DecidableEq, Repr

/-- The leak rate with its marks (R144). -/
structure LeakRate where
  q : Nat
  rise : Bool
  sat : Bool
deriving DecidableEq, Repr

/-- What the end block's computation leaves: B_end, t and the rate. -/
structure Computed where
  bEnd : Nat
  t : Nat
  rate : LeakRate
deriving DecidableEq, Repr

/-- The leak result of a record (R147). -/
structure LeakResult where
  outcome : LeakOutcome
  reason : Option LeakReason
  fillTime : Option Nat
  bStart : Option Nat
  computed : Option Computed
deriving DecidableEq, Repr

inductive Verdict where
  | pass
  | fail
  | notJudged
  | faulted
  | aborted
deriving DecidableEq, Repr

inductive StopReason where
  | operator
  | tableReplaced
  | fault
  | safety
  | cellReset
deriving DecidableEq, Repr

/-- The five marks of the verdict basis (9.1). -/
structure Basis where
  fault : Bool
  safety : Bool
  fail : Bool
  gap : Bool
  process : Bool
deriving DecidableEq, Repr

/-- A record held in a slot, OPEN while `closed` is false. -/
structure Record where
  id : Nat
  station : StNo
  code : Nat
  topRecipe : Nat
  serial : List Byte
  admitStamp : Word
  closeStamp : Option Word
  verdict : Option Verdict
  stopReason : Option StopReason
  segsTruncated : Bool
  ordersTruncated : Bool
  defectsTruncated : Bool
  segs : List SegResult
  orders : List OrderResult
  defects : List DefectEntry
  leak : Option LeakResult
  basis : Basis
  closed : Bool
deriving DecidableEq, Repr

/-- The report store RS (9.1); a FREE slot is `none`. -/
structure Store where
  slots : List (Option Record)
  idCounter : Nat
  closeQueue : List Nat
deriving DecidableEq, Repr

/-! ### Stations (Chapters 4 to 8 and 10) -/

inductive StState where
  | idle
  | running
  | held
  | finishing
  | stopping
deriving DecidableEq, Repr

inductive HoldReason where
  | mode
  | step
  | pause
  | fail
deriving DecidableEq, Repr

inductive RunMode where
  | hold
  | step
  | run
  | runThrough
deriving DecidableEq, Repr

inductive StopKind where
  | controlled
  | coast
deriving DecidableEq, Repr

structure ChainEntry where
  recipe : Nat
  ret : Option Nat
deriving DecidableEq, Repr

/-- The test context of a station (4.1). `chain` has its top first. `segment` is the working segment
in progress, as SC read it when it began (R36, R63). -/
structure Context where
  state : StState
  recordId : Nat
  variantSlot : Option Nat
  stopOnFail : Bool
  holdReason : Option HoldReason
  chain : List ChainEntry
  index : Nat
  pauseRelease : Bool
  segTimer : Nat
  executed : Nat
  variantUse : Bool
  stopReason : Option StopReason
  stopKind : Option StopKind
  stopTimer : Nat
  safety : Bool
  segment : Option Segment
deriving DecidableEq, Repr

/-- The parameters in force of a drive control (R84). -/
structure Params where
  target : Int
  rate : Nat
  band : Nat
  persist : Option Nat
  torqueCheck : Option Nat
deriving DecidableEq, Repr

/-- The drive control of a station (5.1). `formed` is the target T of R86 formed last (R108). -/
structure Drive where
  enable : Bool
  setpoint : Int
  torqueLimit : Nat
  params : Option Params
  reached : Bool
  steady : Bool
  devRun : Nat
  torqueRun : Nat
  dwell : Nat
  feedback : Nat
  latchSpeed : Bool
  latchTorque : Bool
  latchFeedback : Bool
  maxError : Nat
  maxTorque : Nat
  clamped : Bool
  formed : Int
deriving DecidableEq, Repr

inductive UnitState where
  | inactive
  | seeking
  | collecting
deriving DecidableEq, Repr

inductive Direction where
  | up
  | down
deriving DecidableEq, Repr

inductive WindowState where
  | collecting
  | valid
  | void
  | abandoned
deriving DecidableEq, Repr

inductive VoidReason where
  /-- ALIAS: an edge skipped (R106). -/
  | skipped
  | direction
  | slow
  | speed
  | gap
  | unsteady
  | hiss
deriving DecidableEq, Repr

/-- The cosine and sine accumulators of one order line (R118). -/
structure Accum where
  c : Int
  s : Int
deriving DecidableEq, Repr

/-- A window record (R115). -/
structure WindowRecord where
  startAngle : Half
  direction : Direction
  k : Nat
  ts : Nat
  speed : Option Nat
  state : WindowState
  reason : Option VoidReason
  accums : List Accum
deriving DecidableEq, Repr

/-- The listening parameters (R104). -/
structure ListenParams where
  e : Nat
  n : Nat
  channel : Channel
  table : List Int
deriving DecidableEq, Repr

/-- The angle window unit of a station (6.1). -/
structure AngleUnit where
  state : UnitState
  lastAngle : Option Half
  params : Option ListenParams
  attempts : Nat
  voids : Nat
  window : Option WindowRecord
deriving DecidableEq, Repr

/-- One order line of a listening point (7.1); `computed` is its class. -/
structure PointLine where
  order : Nat
  limits : BandLimits
  computed : Bool
  exceed : Nat
  clear : Nat
  verdict : OrderVerdict
  levels : List Level
  lastBand : Option Nat
deriving DecidableEq, Repr

/-- A listening point that is LISTENING (7.1). -/
structure Point where
  limitSet : Nat
  edge1 : Nat
  edge2 : Nat
  edge3 : Nat
  maxAttempts : Nat
  timeLimit : Nat
  ordinal : Nat
  lines : List PointLine
deriving DecidableEq, Repr

inductive LeakPhase where
  | fillWait
  | fill
  | settle
  | measure
  | vent
  | done
deriving DecidableEq, Repr

/-- A partly filled averaging block (R141): sum, count and the clock of its first cycle. It is the
start block while B_start is not fixed and the end block after. -/
structure Block where
  sum : Nat
  count : Nat
  first : Nat
deriving DecidableEq, Repr

/-- The model's own mark of an activity within a ring cycle event (R135): begun before the event,
phase entered since, or activity started since. -/
inductive Freshness where
  | old
  | entered
  | started
deriving DecidableEq, Repr

/-- A leak activity (8.1). `bStart` holds B_start and s. -/
structure Activity where
  phase : LeakPhase
  owner : Nat
  params : LeakParams
  volume : Nat
  leakLimit : Nat
  ambient : Option Nat
  clock : Nat
  timer : Nat
  fillTime : Option Nat
  measureEntry : Option Nat
  block : Option Block
  bStart : Option (Nat × Nat)
  computed : Option Computed
  result : Option LeakOutcome
  reason : Option LeakReason
  mark : Freshness
deriving DecidableEq, Repr

inductive RejectState where
  | ready
  | pulsing
  | recovering
  | caught
deriving DecidableEq, Repr

/-- The output unit's fields of one station (10.1). -/
structure Output where
  pass : Bool
  reject : RejectState
  pulseTimer : Nat
  width : Nat
  recoveryTimer : Nat
  recovery : Nat
  pending : Nat
  lost : Nat
deriving DecidableEq, Repr

/-! ### Steps due inside the block -/

/-- One sample set of a fast block (11.2). -/
structure SampleSet where
  a : Int
  b : Int
  angle : Half
deriving DecidableEq, Repr

/-- The rows of the table that fall due within a station. `windowClose` keeps the closing set and its
step, which R109 tests as a start. -/
inductive StEvent where
  | feedbackLost
  | speedDeviation
  | torqueLimit
  | rampDone
  | speedNotReached
  | dwellDone
  | leakWaitTimeout
  | runaway
  | stopComplete
  | stopTimeout
  | pulseEnd
  | recoveryEnd
  | windowClose (x : SampleSet) (step : Int)
  | slow
  | listenCutOff
  | listenTimeLimit
  | fill
  | supplyWaitLimit
  | settle
  | grossLeak
  | measure
  | startBlock
  | endBlock
  | disturbed
  | ventDone
  | ventTimeout
deriving DecidableEq, Repr

/-- The work of an event that a station still has to do, in order. `due` is a step of the table that
has fallen due; the work behind it waits for it. -/
inductive Todo where
  /-- Segment timer and stop timer rise (R65, R77). -/
  | timers
  /-- The output unit's cycle work (R171). -/
  | outputs
  /-- An absent cycle of the vibration head (R110). -/
  | absent
  /-- A gap or loss-of-sync signal of the vibration head (R103, R110). -/
  | gap
  /-- A sample set of the vibration head (R103). -/
  | sampleSet (x : SampleSet)
  /-- Drive control, step 1 (R85). -/
  | trips
  /-- Drive control, steps 2 and 3 (R85). -/
  | form
  /-- Drive control, step 4 (R85). -/
  | supervise
  /-- The SETPOINT frame becomes ready (R85). -/
  | ready
  /-- The test for stop completion (R79). -/
  | stopTest
  /-- The leak unit's per-cycle work (R135). -/
  | leakWork
  /-- A collecting window meets the steady flag (R111). -/
  | steadyTest
  /-- The listening point's time limit (R126). -/
  | listenLimit
  /-- The stop timeout (R80). -/
  | stopLimit
  /-- A step of the table that has fallen due. -/
  | due (e : StEvent)
deriving DecidableEq, Repr

/-- One station: run mode, SC, DC, AW with its listening point, LU, OU, whether its SETPOINT frame is
ready (R7), and the work of the event in progress. -/
structure Station where
  mode : RunMode
  sc : Context
  dc : Drive
  aw : AngleUnit
  point : Option Point
  lu : Option Activity
  ou : Output
  ready : Bool
  todo : List Todo
deriving DecidableEq, Repr

/-! ### Management (Chapter 2) -/

/-- The six attention flags (R28). -/
structure Flags where
  reportReady : Bool
  linkError : Bool
  requestLost : Bool
  headResync : Bool
  safety : Bool
  airShort : Bool
deriving DecidableEq, Repr

inductive Arrival where
  | ok
  | length
deriving DecidableEq, Repr

/-- The reply codes, in the order of the table of 2.3. -/
inductive ReplyCode where
  | done
  | clamped
  | badLength
  | badKind
  | badField
  | noEntry
  | tableFull
  | duplicate
  | inUse
  | stationBusy
  | notConfigured
  | headUnsynced
  | noReportSpace
  | wrongState
  | noReport
deriving DecidableEq, Repr

inductive PayloadTag where
  | none
  | status
  | entry
  | station
  | cell
  | counters
  | admitted
  | reportFirst
  | reportMiddle
  | reportLast
  | reportSingle
deriving DecidableEq, Repr

/-- What the status summary says of one station (R27). -/
structure StationSummary where
  state : StState
  holdReason : Option HoldReason
  stopKind : Option StopKind
  safety : Bool
  mode : RunMode
deriving DecidableEq, Repr

/-- The status summary (R27). -/
structure Summary where
  stations : Quad StationSummary
  closedCount : Nat
  oldestClosed : Nat
  lineStop : Bool
  flags : Flags
deriving DecidableEq, Repr

/-- A formed reply (R25), its payload as bytes of 11.3. -/
structure Reply where
  tag : Byte
  kind : Byte
  code : ReplyCode
  summary : Summary
  payloadTag : PayloadTag
  payload : List Byte
deriving DecidableEq, Repr

/-- The state of a queue entry (2.1). -/
inductive EntryState where
  | waiting
  | answered (r : Reply) (inTransmission : Bool)
deriving DecidableEq, Repr

/-- An entry of the request queue (2.1). -/
structure Request where
  source : Byte
  kind : Byte
  tag : Byte
  force : Bool
  body : List Byte
  arrival : Arrival
  state : EntryState
deriving DecidableEq, Repr

end Sys2Proof.Machine
end

