-- ==== Sys2Proof/Machine/State.lean ====
section
/-! DEFINITION. The state of the block, its fault and refusal reasons, and the state after power-on
reset. -/

namespace Sys2Proof.Machine

/-- The machine. `pending` is the queue of commands, first in first out (log entry 1). -/
structure State where
  pending : List Instr
  rp : RingPort
  tb : Timebase
  heads : List HeadEntry
  formatErrors : Nat
  supplyOk : Bool
  queue : List Request
  flags : Flags
  lib : Library
  setups : Quad Setup
  cell : CellSettings
  store : Store
  stations : Quad Station
  lineStop : Bool
deriving DecidableEq, Repr

/-- The reasons for which the model stops with a fault. -/
inductive Fault where
  /-- Raised by LOSS_OF_SYNC alone, when the node it names has no head entry (not 1-30): the command is
  ill formed (`Instr.wf`), and no event of the part is meant. Safe: the model stops, nothing is claimed. -/
  | noSuchHead (node : Nat)
deriving DecidableEq, Repr

/-- The reasons for which the model refuses a command. -/
inductive Refusal where
  /-- Raised by an arm of `exec` for a command not yet modelled. No arm raises it now. Safe. -/
  | notModelled (mnemonic : String)
deriving DecidableEq, Repr

/-- One item for each slot, all alike. -/
def Slow.all {α : Type} (x : α) : Slow α := ⟨x, x, x, x, x, x⟩

/-- A head entry after power-on reset (R16). -/
def HeadEntry.initial : HeadEntry :=
  { state := .unsynced, expected := 0, run := 0, gap := 0, outOfOrder := 0, resync := 0,
    lastStamp := 0, values := Slow.all none, fresh := Slow.all false, used := 0, signalled := false,
    closed := { slots := Slow.all .noValue, absent := false, signalled := false } }

/-- The power-on station setup (3.7, R48). -/
def Setup.initial : Setup :=
  { driveHead := 0, processHead := 0, vibrationHead := 0, channel := .a, angleTable := 0,
    maxSpeed := 0, tripSpeed := 0, tripTorque := 0, maxTorque := 0, feedbackTimeout := 10,
    stopRate := 100, stopTimeout := 30000, zeroBand := 50, rejectMode := .pulse, width := 1,
    recovery := 0 }

/-- The power-on cell settings (3.8, R50). -/
def CellSettings.initial : CellSettings :=
  { ambient := 101325, supplyHead := 0, supplyThreshold := 0, supplyWait := 5000, absMaxSpeed := 0 }

/-- The IDLE values of a test context (R58). -/
def Context.idle : Context :=
  { state := .idle, recordId := 0, variantSlot := none, stopOnFail := false, holdReason := none,
    chain := [], index := 0, pauseRelease := false, segTimer := 0, executed := 0,
    variantUse := false, stopReason := none, stopKind := none, stopTimer := 0, safety := false,
    segment := none }

/-- The IDLE values of a drive control (R83). -/
def Drive.idle : Drive :=
  { enable := false, setpoint := 0, torqueLimit := 0, params := none, reached := false,
    steady := false, devRun := 0, torqueRun := 0, dwell := 0, feedback := 0, latchSpeed := false,
    latchTorque := false, latchFeedback := false, maxError := 0, maxTorque := 0, clamped := false,
    formed := 0 }

/-- The angle window unit after power-on reset (R102). -/
def AngleUnit.initial : AngleUnit :=
  { state := .inactive, lastAngle := none, params := none, attempts := 0, voids := 0,
    window := none }

/-- A station's outputs after power-on reset (R168). -/
def Output.initial : Output :=
  { pass := false, reject := .ready, pulseTimer := 0, width := 1, recoveryTimer := 0,
    recovery := 0, pending := 0, lost := 0 }

/-- A station after power-on reset (R58, R83, R102, R116, R132, R168). -/
def Station.initial : Station :=
  { mode := .hold, sc := Context.idle, dc := Drive.idle, aw := AngleUnit.initial, point := none,
    lu := none, ou := Output.initial, ready := false, todo := [] }

/-- No attention flag set (R28). -/
def Flags.clear : Flags := ⟨false, false, false, false, false, false⟩

/-- The tables after power-on reset: every entry absent (R35). -/
def Library.empty : Library :=
  { variants := List.replicate Config.variantSlots none
    recipes := List.replicate Config.recipeCount none
    limits := List.replicate Config.limitSetCount none
    angles := List.replicate Config.angleTableCount none }

/-- The report store after power-on reset (R153). -/
def Store.empty : Store :=
  { slots := List.replicate Config.recordSlots none, idCounter := 0, closeQueue := [] }

/-- The ring port after power-on reset with the given node address (R3, R5, R9, R18). -/
def RingPort.initial (addr : Byte) : RingPort :=
  { addr := addr, buffer := [], tx := none, window := none, ownSeq := 0, checkErrors := 0,
    misdirected := 0, returned := 0, forwardDrops := 0, overruns := 0 }

/-- The machine right after power-on reset. The spec gives no level for the straps; the model takes
00000, which R10 clamps to address 30 (DESIGN CHOICE, log entry 3). -/
def State.reset : State :=
  { pending := []
    rp := RingPort.initial 30
    tb := { cycle := 0, running := false, slips := 0, flywheels := 0 }
    heads := List.replicate Config.nodes HeadEntry.initial
    formatErrors := 0
    supplyOk := false
    queue := []
    flags := Flags.clear
    lib := Library.empty
    setups := Quad.all Setup.initial
    cell := CellSettings.initial
    store := Store.empty
    stations := Quad.all Station.initial
    lineStop := false }

end Sys2Proof.Machine
end

