-- ==== Sys2Proof/Machine/Operands.lean ====
section
/-! DEFINITION. Bytes of frames, requests, segment entries and payloads (Chapter 11): the check of R1,
byte order, body lengths, segment entries, and the codes of 11.6. -/

namespace Sys2Proof.Machine

/-! ### Byte order (11.1) -/

/-- The byte at an offset; 0 beyond the end. -/
def byteAt (bs : List Byte) (i : Nat) : Nat := (bs.getD i 0).toNat

/-- A u16 at an offset, most significant byte first. -/
def u16At (bs : List Byte) (i : Nat) : Nat := byteAt bs i * 256 + byteAt bs (i + 1)

/-- A u32 at an offset, most significant byte first. -/
def u32At (bs : List Byte) (i : Nat) : Nat := u16At bs i * 65536 + u16At bs (i + 2)

/-- An s16 at an offset, two's complement. -/
def s16At (bs : List Byte) (i : Nat) : Int := (BitVec.ofNat 16 (u16At bs i)).toInt

/-- An s32 at an offset, two's complement. -/
def s32At (bs : List Byte) (i : Nat) : Int := (BitVec.ofNat 32 (u32At bs i)).toInt

/-- A u8 field. -/
def putU8 (n : Nat) : List Byte := [BitVec.ofNat 8 n]

/-- A u16 field, most significant byte first. -/
def putU16 (n : Nat) : List Byte := putU8 (n / 256) ++ putU8 n

/-- A u32 field, most significant byte first. -/
def putU32 (n : Nat) : List Byte := putU16 (n / 65536) ++ putU16 n

/-- An s16 field, two's complement. -/
def putS16 (x : Int) : List Byte := putU16 (BitVec.ofInt 16 x).toNat

/-- An s32 field, two's complement. -/
def putS32 (x : Int) : List Byte := putU32 (BitVec.ofInt 32 x).toNat

/-- A mark: 0 clear, 1 set (11.6). -/
def putMark (b : Bool) : List Byte := putU8 (if b then 1 else 0)

/-- The number of the low bits of a mark byte, bit 0 first. -/
def markBits : List Bool → Nat
  | [] => 0
  | b :: bs => (if b then 1 else 0) + 2 * markBits bs

/-! ### The frame and its check (R1, R177) -/

/-- One bit of the check register: generator polynomial 0x1021, most significant bit first (R1). -/
def crcBit (r : Half) : Half := if r.msb then (r <<< 1) ^^^ 0x1021#16 else r <<< 1

/-- `n` bits of the check register. -/
def crcBits : Nat → Half → Half
  | 0, r => r
  | n + 1, r => crcBits n (crcBit r)

/-- One byte entering the check register (R1). -/
def crcByte (r : Half) (b : Byte) : Half := crcBits 8 (r ^^^ (b.setWidth 16 <<< 8))

/-- The check over a row of bytes: the register starts at 0xFFFF, no final inversion (R1). -/
def crc (bs : List Byte) : Half := bs.foldl crcByte 0xFFFF#16

/-- The six header bytes of a frame (R177). -/
def frameHeader (f : Frame) : List Byte :=
  [f.dest, f.src, f.kind, f.seq] ++ putU16 f.length.toNat

/-- What the check of a frame is computed over: header and payload (R1, R177). -/
def frameChecked (f : Frame) : List Byte := frameHeader f ++ f.payload

/-- A frame as the bytes of the ring, in the order sent: header, payload, check with its high byte first
(R177). -/
def frameBytes (f : Frame) : List Byte := frameChecked f ++ putU16 f.check.toNat

/-- The frame that a row of bytes spells: six header bytes, then the payload, then the two bytes of the check
(R177); none for a row too short to hold header and check. -/
def frameOfBytes (bs : List Byte) : Option Frame :=
  if 8 ≤ bs.length then
    some
      { dest := bs.getD 0 0, src := bs.getD 1 0, kind := bs.getD 2 0, seq := bs.getD 3 0
        length := BitVec.ofNat 16 (u16At bs 4)
        payload := (bs.drop 6).take (bs.length - 8)
        check := BitVec.ofNat 16 (u16At bs (bs.length - 2)) }
  else none

/-- A frame is good when its length field is at most 1024, as many payload bytes were received, and its
check is the one computed (R1). -/
def frameGood (f : Frame) : Bool :=
  decide (f.length.toNat ≤ Config.maxPayload) && decide (f.payload.length = f.length.toNat)
    && decide (f.check = crc (frameChecked f))

/-- Kind bytes of a frame (R177). -/
def kindCycle : Byte := 1
def kindSample : Byte := 2
def kindSetpoint : Byte := 3
def kindRequest : Byte := 4
def kindReply : Byte := 5

/-- A frame of the part's own: its length field and check are those of what it carries (R5, R177). -/
def buildFrame (dest src kind seq : Byte) (payload : List Byte) : Frame :=
  let f : Frame :=
    { dest := dest, src := src, kind := kind, seq := seq,
      length := BitVec.ofNat 16 payload.length, payload := payload, check := 0 }
  { f with check := crc (frameChecked f) }

/-! ### SAMPLE payloads (11.2, R178) -/

/-- Bit `i` of a byte-sized number. -/
def bitSet (n i : Nat) : Bool := n.testBit i

/-- The length that a SAMPLE payload's content marks give (R13, R178). -/
def sampleLength (marks : Nat) : Nat :=
  5 + (if bitSet marks 0 then 192 else 0) + (if bitSet marks 1 then 25 else 0)

/-- The payload is as long as its cycle stamp, fast block and slow block give (R13, R178). -/
def sampleWellFormed (p : List Byte) : Bool :=
  decide (5 ≤ p.length) && decide (p.length = sampleLength (byteAt p 4))

/-- The SAMPLE payload carries a fast block. -/
def hasFast (p : List Byte) : Bool := bitSet (byteAt p 4) 0

/-- Sample set `j` of the fast block, at offset 5 + 6j (R178). -/
def sampleSetAt (p : List Byte) (j : Nat) : SampleSet :=
  { a := s16At p (5 + 6 * j), b := s16At p (5 + 6 * j + 2),
    angle := BitVec.ofNat 16 (u16At p (5 + 6 * j + 4)) }

/-- The 32 sample sets in set order. -/
def sampleSets (p : List Byte) : List SampleSet := (List.range 32).map (sampleSetAt p)

/-- Where the slow block begins. -/
def slowOffset (p : List Byte) : Nat := if hasFast p then 197 else 5

/-- Slow slot `k`: its value when the slow block is there and its mark is set (R178). -/
def slowAt (p : List Byte) (k : Nat) : Option Int :=
  if bitSet (byteAt p 4) 1 && bitSet (byteAt p (slowOffset p)) k then
    some (s32At p (slowOffset p + 1 + 4 * k))
  else none

/-- The slow values present in a SAMPLE payload, in the order of the slow marks (11.2). -/
def slowValues (p : List Byte) : Slow (Option Int) :=
  ⟨slowAt p 0, slowAt p 1, slowAt p 2, slowAt p 3, slowAt p 4, slowAt p 5⟩

/-! ### Codes (R182) -/

def ReplyCode.code : ReplyCode → Nat
  | .done => 0
  | .clamped => 1
  | .badLength => 2
  | .badKind => 3
  | .badField => 4
  | .noEntry => 5
  | .tableFull => 6
  | .duplicate => 7
  | .inUse => 8
  | .stationBusy => 9
  | .notConfigured => 10
  | .headUnsynced => 11
  | .noReportSpace => 12
  | .wrongState => 13
  | .noReport => 14

def PayloadTag.code : PayloadTag → Nat
  | .none => 0
  | .status => 1
  | .entry => 2
  | .station => 3
  | .cell => 4
  | .counters => 5
  | .admitted => 6
  | .reportFirst => 7
  | .reportMiddle => 8
  | .reportLast => 9
  | .reportSingle => 10

def StState.code : StState → Nat
  | .idle => 0
  | .running => 1
  | .held => 2
  | .finishing => 3
  | .stopping => 4

def HoldReason.code : HoldReason → Nat
  | .mode => 1
  | .step => 2
  | .pause => 3
  | .fail => 4

def RunMode.code : RunMode → Nat
  | .hold => 0
  | .step => 1
  | .run => 2
  | .runThrough => 3

/-- The run mode of a code; none outside the set (R182). -/
def runModeOf : Nat → Option RunMode
  | 0 => some .hold
  | 1 => some .step
  | 2 => some .run
  | 3 => some .runThrough
  | _ => none

def Channel.code : Channel → Nat
  | .a => 0
  | .b => 1

def RejectMode.code : RejectMode → Nat
  | .pulse => 0
  | .catch => 1

def AngleState.code : AngleState → Nat
  | .loading => 1
  | .present => 2

def HeadState.code : HeadState → Nat
  | .unsynced => 0
  | .synced => 1

def SegKind.code : SegKind → Nat
  | .ramp => 1
  | .dwell => 2
  | .listen => 3
  | .leakStart => 4
  | .leakWait => 5
  | .call => 6
  | .chain => 7
  | .finish => 8

def SegOutcome.code : SegOutcome → Nat
  | .done => 0
  | .failed => 1
  | .notJudged => 2
  | .faulted => 3
  | .abandoned => 4

/-- The code of an order verdict; UNDECIDED never reaches a record (R127) and has none of its own. -/
def OrderVerdict.code : OrderVerdict → Nat
  | .pass => 0
  | .fail => 1
  | .notJudged => 2
  | .undecided => 2

def Verdict.code : Verdict → Nat
  | .pass => 0
  | .fail => 1
  | .notJudged => 2
  | .faulted => 3
  | .aborted => 4

/-- The code of a stop reason; 0 is none. -/
def stopReasonCode : Option StopReason → Nat
  | none => 0
  | some .operator => 1
  | some .tableReplaced => 2
  | some .fault => 3
  | some .safety => 4
  | some .cellReset => 5

def LeakOutcome.code : LeakOutcome → Nat
  | .pass => 0
  | .fail => 1
  | .notJudged => 2
  | .aborted => 3

/-- The code of a leak reason; 0 is none. -/
def leakReasonCode : Option LeakReason → Nat
  | none => 0
  | some .airShort => 1
  | some .disturbed => 2
  | some .timeout => 3
  | some .grossLeak => 4
  | some .leakRate => 5

/-- Defect codes 1 to 21, in the order of the class table of 9.3. -/
def DefectCode.code : DefectCode → Nat
  | .speedNotReached => 1
  | .speedDeviation => 2
  | .torqueLimit => 3
  | .noiseOrder => 4
  | .grossLeak => 5
  | .leakRate => 6
  | .leakBusy => 7
  | .noiseNotJudged => 8
  | .orderRange => 9
  | .leakNotJudged => 10
  | .ventTimeout => 11
  | .stopTimeout => 12
  | .noRecipe => 13
  | .recursion => 14
  | .chainDepth => 15
  | .noLimits => 16
  | .noAngle => 17
  | .runaway => 18
  | .overspeed => 19
  | .overtorque => 20
  | .feedbackLost => 21

/-! ### Request bodies (11.3) -/

/-- The body length that 11.3 gives a request kind with the counts its body carries; `none` when the
body is too short to hold its count field or the kind is not in the catalogue. -/
def bodyLength (kind : Nat) (body : List Byte) : Option Nat :=
  match kind with
  | 1 => some 0
  | 2 => some 10
  | 3 => if 3 ≤ body.length then some (3 + 30 * byteAt body 2) else none
  | 4 => if 14 ≤ body.length then some (14 + 10 * byteAt body 13) else none
  | 5 => if 7 ≤ body.length then some (7 + 2 * u16At body 5) else none
  | 6 => some 3
  | 7 => some 4
  | 8 => some 51
  | 9 => some 1
  | 10 => some 18
  | 11 => some 0
  | 12 => some 1
  | 13 => if 5 ≤ body.length then some (5 + byteAt body 4) else none
  | 14 => some 2
  | 15 => some 1
  | 16 => some 1
  | 17 => some 3
  | 18 => some 2
  | 19 => some 1
  | 20 => some 0
  | 21 => some 0
  | _ => none

/-- The request kind is one of the 21 of the catalogue (2.8). -/
def inCatalogue (kind : Nat) : Bool := decide (1 ≤ kind) && decide (kind ≤ 21)

/-- The arrival status of a request payload (R22). A kind outside the catalogue is not judged. -/
def arrivalOf (payload : List Byte) : Arrival :=
  if inCatalogue (byteAt payload 0) then
    if 3 ≤ payload.length ∧
        bodyLength (byteAt payload 0) (payload.drop 3) = some (payload.drop 3).length then .ok
    else .length
  else .ok

/-! ### Segment entries (R39, R40, R180) -/

/-- A number within a range. -/
def within (lo hi n : Nat) : Bool := decide (lo ≤ n) && decide (n ≤ hi)

/-- A signed number within a range. -/
def withinS (lo hi : Int) (n : Int) : Bool := decide (lo ≤ n) && decide (n ≤ hi)

/-- The ranges of the parameters RAMP, DWELL and LISTEN share (R39). -/
def Motion.inRange (m : Motion) : Bool :=
  withinS (-1000000) 1000000 m.target && within 1 100000 m.rate && within 0 100000 m.band
    && within 1 255 m.persist

/-- The ranges of a LEAK_START's parameters (R39). -/
def LeakParams.inRange (p : LeakParams) : Bool :=
  within 1 400000 p.fillTarget && within 1 600000 p.fillTimeout && within 1 600000 p.settle
    && within 1000 60000 p.measure && within 4 64 p.averaging && within 0 60000 p.holdLimit
    && within 0 400000 p.ventThreshold && within 1 600000 p.ventTimeout

/-- The ranges of a segment's parameters (R39). -/
def SegBody.inRange : SegBody → Bool
  | .ramp m tc tl => m.inRange && within 0 2000000 tc && within 1 10000000 tl
  | .dwell m tc d => m.inRange && within 0 2000000 tc && within 0 10000000 d
  | .listen m tl ls n ma =>
    m.inRange && within 1 10000000 tl && within 0 31 ls && within 1 64 n && within 3 8 ma
  | .leakStart p => p.inRange
  | .leakWait tl => within 1 10000000 tl
  | .call r => within 0 47 r
  | .chain r => within 0 47 r
  | .finish => true

/-- CALL, CHAIN and END are the flow segments (R39). -/
def SegBody.isFlow : SegBody → Bool
  | .call _ => true
  | .chain _ => true
  | .finish => true
  | _ => false

/-- A segment that a load accepts: parameters in range, PAUSE clear on a flow segment (R40). -/
def Segment.inRange (g : Segment) : Bool := g.body.inRange && !(g.pause && g.body.isFlow)

/-- The shared drive parameters of the entry at an offset (R180). -/
def motionAt (bs : List Byte) (o : Nat) : Motion :=
  { target := s32At bs (o + 2), rate := u32At bs (o + 6), band := u32At bs (o + 10),
    persist := byteAt bs (o + 22) }

/-- The body of the segment entry at an offset, by its kind byte; none outside the eight kinds (R180). -/
def segBodyAt (bs : List Byte) (o : Nat) : Option SegBody :=
  match byteAt bs o with
  | 1 => some (.ramp (motionAt bs o) (u32At bs (o + 14)) (u32At bs (o + 18)))
  | 2 => some (.dwell (motionAt bs o) (u32At bs (o + 14)) (u32At bs (o + 18)))
  | 3 => some (.listen (motionAt bs o) (u32At bs (o + 14)) (byteAt bs (o + 18)) (byteAt bs (o + 19))
      (byteAt bs (o + 20)))
  | 4 => some (.leakStart
      { fillTarget := u32At bs (o + 2), fillTimeout := u32At bs (o + 6), settle := u32At bs (o + 10),
        ventThreshold := u32At bs (o + 14), ventTimeout := u32At bs (o + 18),
        measure := u16At bs (o + 22), holdLimit := u16At bs (o + 24), averaging := byteAt bs (o + 26) })
  | 5 => some (.leakWait (u32At bs (o + 2)))
  | 6 => some (.call (byteAt bs (o + 2)))
  | 7 => some (.chain (byteAt bs (o + 2)))
  | 8 => some .finish
  | _ => none

/-- A mark byte of a request: 0 clear, 1 set, anything else outside its set (R179). -/
def markOf : Nat → Option Bool
  | 0 => some false
  | 1 => some true
  | _ => none

/-- The segment entry at an offset, checked as R40 check 4 lays down. -/
def segmentAt (bs : List Byte) (o : Nat) : Option Segment :=
  match segBodyAt bs o, markOf (byteAt bs (o + 1)) with
  | some body, some pause =>
    if Segment.inRange ⟨pause, body⟩ then some ⟨pause, body⟩ else none
  | _, _ => none

/-- `n` segment entries from an offset on, in order. -/
def segmentsAt (bs : List Byte) : Nat → Nat → Option (List Segment)
  | 0, _ => some []
  | n + 1, o =>
    match segmentAt bs o, segmentsAt bs n (o + 30) with
    | some g, some gs => some (g :: gs)
    | _, _ => none

def SegBody.kind : SegBody → SegKind
  | .ramp _ _ _ => .ramp
  | .dwell _ _ _ => .dwell
  | .listen _ _ _ _ _ => .listen
  | .leakStart _ => .leakStart
  | .leakWait _ => .leakWait
  | .call _ => .call
  | .chain _ => .chain
  | .finish => .finish

/-- The 28 bytes of a segment entry's parameter area, unused bytes 0 (R180). -/
def SegBody.bytes : SegBody → List Byte
  | .ramp m tc tl => putS32 m.target ++ putU32 m.rate ++ putU32 m.band ++ putU32 tc ++ putU32 tl
      ++ putU8 m.persist ++ List.replicate 7 0
  | .dwell m tc d => putS32 m.target ++ putU32 m.rate ++ putU32 m.band ++ putU32 tc ++ putU32 d
      ++ putU8 m.persist ++ List.replicate 7 0
  | .listen m tl ls n ma => putS32 m.target ++ putU32 m.rate ++ putU32 m.band ++ putU32 tl
      ++ putU8 ls ++ putU8 n ++ putU8 ma ++ putU8 0 ++ putU8 m.persist ++ List.replicate 7 0
  | .leakStart p => putU32 p.fillTarget ++ putU32 p.fillTimeout ++ putU32 p.settle
      ++ putU32 p.ventThreshold ++ putU32 p.ventTimeout ++ putU16 p.measure ++ putU16 p.holdLimit
      ++ putU8 p.averaging ++ List.replicate 3 0
  | .leakWait tl => putU32 tl ++ List.replicate 24 0
  | .call r => putU8 r ++ List.replicate 27 0
  | .chain r => putU8 r ++ List.replicate 27 0
  | .finish => List.replicate 28 0

/-- The 30 bytes of a segment entry (R180). -/
def Segment.bytes (g : Segment) : List Byte :=
  putU8 g.body.kind.code ++ putMark g.pause ++ g.body.bytes

/-- The segment entries of a recipe in order (R180). -/
def segmentsBytes : List Segment → List Byte
  | [] => []
  | g :: gs => g.bytes ++ segmentsBytes gs

end Sys2Proof.Machine
end

