-- ==== Sys2Proof/Machine/Ops.lean ====
section
/-! DEFINITION. The operations the blocks share: saturating counts, the head table, the tables and their
in-use counts, and the bench, which is what the blocks of one station can reach. -/

namespace Sys2Proof.Machine

/-! ### Counts (0.7.3, R18) -/

/-- `n + d`, stopping at `top` (0.7.3 "saturates"). -/
def satAdd (top n d : Nat) : Nat := min top (n + d)

/-- One more on a 16-bit counter (R18). -/
def countUp (n : Nat) : Nat := satAdd Config.counterTop n 1

/-- One more on a 32-bit timer (4.1, 8.1). -/
def tick (n : Nat) : Nat := satAdd Config.timerTop n 1

/-- The quotient rounded half up (0.7.3). -/
def roundDiv (a b : Nat) : Nat := (a + b / 2) / b

/-! ### Slow values (R16) -/

def Slow.map2 {α β γ : Type} (f : α → β → γ) (a : Slow α) (b : Slow β) : Slow γ :=
  ⟨f a.speed b.speed, f a.torque b.torque, f a.housing b.housing, f a.airTemp b.airTemp,
    f a.oil b.oil, f a.supply b.supply⟩

/-- The value of a reading, fresh or held. -/
def Reading.value : Reading → Option Int
  | .noValue => none
  | .held v => some v
  | .fresh v => some v

/-- The value of a reading when it is fresh. -/
def Reading.freshValue : Reading → Option Int
  | .fresh v => some v
  | _ => none

/-- How a slot stands in a closed cycle (R16): fresh needs the entry SYNCED at the event. -/
def closeSlot (synced : Bool) (v : Option Int) (fresh : Bool) : Reading :=
  match v with
  | none => .noValue
  | some x => if fresh && synced then .fresh x else .held x

/-! ### The head table (1.8) -/

/-- The entry of a node, if it has one. -/
def headOf (heads : List HeadEntry) (node : Nat) : Option HeadEntry :=
  if node = 0 then none else heads[node - 1]?

/-- The head table with a node's entry replaced. -/
def putHead (heads : List HeadEntry) (node : Nat) (h : HeadEntry) : List HeadEntry :=
  if node = 0 then heads else heads.set (node - 1) h

/-- The closed cycle of a node; no value, not absent, not signalled where it has no entry. -/
def closedOf (heads : List HeadEntry) (node : Nat) : ClosedCycle :=
  match headOf heads node with
  | some h => h.closed
  | none => { slots := Slow.all .noValue, absent := false, signalled := false }

/-- The node's entry is SYNCED. -/
def headSynced (heads : List HeadEntry) (node : Nat) : Bool :=
  match headOf heads node with
  | some h => decide (h.state = .synced)
  | none => false

/-! ### Tables and in-use counts (Chapter 3) -/

/-- The entry at an index of a table; none where it is absent. -/
def entryAt {α : Type} (t : List (Option α)) (i : Nat) : Option α := (t[i]?).join

/-- The table with the entry at an index changed, where it is present. -/
def entryMap {α : Type} (t : List (Option α)) (i : Nat) (f : α → α) : List (Option α) :=
  t.modify i (Option.map f)

/-- The in-use count of a recipe rises by 1 (R52). -/
def Library.useRecipe (l : Library) (r : Nat) : Library :=
  { l with recipes := entryMap l.recipes r fun e => { e with inUse := e.inUse + 1 } }

/-- The in-use count of a recipe falls by 1 (R52). -/
def Library.dropRecipe (l : Library) (r : Nat) : Library :=
  { l with recipes := entryMap l.recipes r fun e => { e with inUse := e.inUse - 1 } }

/-- The in-use count of every recipe of a chain falls by 1 (R52). -/
def Library.dropChain (l : Library) : List ChainEntry → Library
  | [] => l
  | c :: cs => (l.dropRecipe c.recipe).dropChain cs

/-- The in-use count of a variant slot rises by 1 (R53). -/
def Library.useVariant (l : Library) (v : Nat) : Library :=
  { l with variants := entryMap l.variants v fun e => { e with inUse := e.inUse + 1 } }

/-- The in-use count of a variant slot falls by 1 (R53). -/
def Library.dropVariant (l : Library) (v : Nat) : Library :=
  { l with variants := entryMap l.variants v fun e => { e with inUse := e.inUse - 1 } }

/-- The in-use counts of a limit set and an angle table rise by 1 (R54). -/
def Library.useListen (l : Library) (set table : Nat) : Library :=
  { l with
    limits := entryMap l.limits set fun e => { e with inUse := e.inUse + 1 }
    angles := entryMap l.angles table fun e => { e with inUse := e.inUse + 1 } }

/-- The in-use counts of a limit set and an angle table fall by 1 (R54). -/
def Library.dropListen (l : Library) (set table : Nat) : Library :=
  { l with
    limits := entryMap l.limits set fun e => { e with inUse := e.inUse - 1 }
    angles := entryMap l.angles table fun e => { e with inUse := e.inUse - 1 } }

/-- The stop-on-fail flag of a recipe; clear where it is absent. -/
def Library.stopOnFail (l : Library) (r : Nat) : Bool :=
  match entryAt l.recipes r with
  | some e => e.stopOnFail
  | none => false

/-- The segment at an index of a recipe. -/
def Library.segment (l : Library) (r idx : Nat) : Option Segment :=
  match entryAt l.recipes r with
  | some e => e.segments[idx]?
  | none => none

/-! ### The bench: what the blocks of one station reach -/

/-- One station with what its blocks read (local cycle number, head table, supply state, setup, cell
settings) and what they share (tables, report store, attention flags, line-stop latch). A bench is
never held in State: it is taken from it and put back. -/
structure Bench where
  me : StNo
  now : Word
  heads : List HeadEntry
  supplyOk : Bool
  setup : Setup
  cell : CellSettings
  lib : Library
  store : Store
  flags : Flags
  lineStop : Bool
  st : Station

/-- The bench of station `i`. -/
def State.bench (s : State) (i : StNo) : Bench :=
  { me := i, now := s.tb.cycle, heads := s.heads, supplyOk := s.supplyOk, setup := s.setups.get i,
    cell := s.cell, lib := s.lib, store := s.store, flags := s.flags, lineStop := s.lineStop,
    st := s.stations.get i }

/-- What a bench's blocks may have changed, put back: the shared parts and station `i`. -/
def State.putBench (s : State) (i : StNo) (b : Bench) : State :=
  { s with
    lib := b.lib, store := b.store, flags := b.flags, lineStop := b.lineStop,
    stations := s.stations.set i b.st }

/-- Station `i`'s blocks do `f`. -/
def State.onStation (s : State) (i : StNo) (f : Bench → Bench) : State :=
  s.putBench i (f (s.bench i))

def Bench.setSc (b : Bench) (c : Context) : Bench := { b with st := { b.st with sc := c } }
def Bench.setDc (b : Bench) (d : Drive) : Bench := { b with st := { b.st with dc := d } }
def Bench.setAw (b : Bench) (a : AngleUnit) : Bench := { b with st := { b.st with aw := a } }
def Bench.setPoint (b : Bench) (p : Option Point) : Bench := { b with st := { b.st with point := p } }
def Bench.setLu (b : Bench) (a : Option Activity) : Bench := { b with st := { b.st with lu := a } }
def Bench.setOu (b : Bench) (o : Output) : Bench := { b with st := { b.st with ou := o } }
def Bench.setMode (b : Bench) (m : RunMode) : Bench := { b with st := { b.st with mode := m } }
def Bench.setTodo (b : Bench) (t : List Todo) : Bench := { b with st := { b.st with todo := t } }
def Bench.setLib (b : Bench) (l : Library) : Bench := { b with lib := l }
def Bench.setStore (b : Bench) (s : Store) : Bench := { b with store := s }

/-- A step of the table falls due: it stands before the work left. -/
def Bench.raise (e : StEvent) (b : Bench) : Bench := b.setTodo (.due e :: b.st.todo)

/-- The readings of the drive head's closed cycle (R85). -/
def Bench.speed (b : Bench) : Reading := (closedOf b.heads b.setup.driveHead).slots.speed
def Bench.torque (b : Bench) : Reading := (closedOf b.heads b.setup.driveHead).slots.torque

/-- The process head's closed cycle (R132). -/
def Bench.process (b : Bench) : ClosedCycle := closedOf b.heads b.setup.processHead

/-- Vmax of the station (0.6, 5.1): the lesser of its max speed and the cell absolute max speed. -/
def Bench.vmax (b : Bench) : Nat := min b.setup.maxSpeed b.cell.absMaxSpeed

/-- The recipe at the top of the call chain. -/
def Bench.topRecipe (b : Bench) : Nat :=
  match b.st.sc.chain with
  | c :: _ => c.recipe
  | [] => 0

end Sys2Proof.Machine
end

