-- ==== Sys2Proof/Machine/Flags.lean ====
section
/-! DEFINITION. The attention flags (R28), the status summary (R27) and the forming of a reply (R25). -/

namespace Sys2Proof.Machine

def Flags.setReportReady (f : Flags) : Flags := { f with reportReady := true }
def Flags.setLinkError (f : Flags) : Flags := { f with linkError := true }
def Flags.setRequestLost (f : Flags) : Flags := { f with requestLost := true }
def Flags.setHeadResync (f : Flags) : Flags := { f with headResync := true }
def Flags.setSafety (f : Flags) : Flags := { f with safety := true }
def Flags.setAirShort (f : Flags) : Flags := { f with airShort := true }

/-- The attention-flag byte of a reply header (11.3). -/
def Flags.byte (f : Flags) : Nat :=
  markBits [f.reportReady, f.linkError, f.requestLost, f.headResync, f.safety, f.airShort]

/-- What the summary says of a station (R27). -/
def Station.summary (t : Station) : StationSummary :=
  { state := t.sc.state
    holdReason := if t.sc.state = .held then t.sc.holdReason else none
    stopKind := if t.sc.state = .stopping then t.sc.stopKind else none
    safety := decide (t.sc.state = .stopping) && t.sc.safety
    mode := t.mode }

/-- The status summary as the blocks stand (R27, R163). -/
def State.summary (s : State) : Summary :=
  { stations := ⟨s.stations.q0.summary, s.stations.q1.summary, s.stations.q2.summary,
      s.stations.q3.summary⟩
    closedCount := s.store.closeQueue.length
    oldestClosed := s.store.closeQueue.headD 0
    lineStop := s.lineStop
    flags := s.flags }

/-- The detail byte of a station (11.3). -/
def StationSummary.detail (t : StationSummary) : Nat :=
  match t.state, t.holdReason, t.stopKind with
  | .held, some r, _ => r.code
  | .stopping, _, some .controlled => 1
  | .stopping, _, some .coast => if t.safety then 3 else 2
  | _, _, _ => 0

/-- The three bytes of a station in the summary (11.3). -/
def StationSummary.bytes (t : StationSummary) : List Byte :=
  putU8 t.state.code ++ putU8 t.detail ++ putU8 t.mode.code

/-- The payload of a REPLY frame: the header of 21 bytes, then the payload of its tag (11.3). -/
def Reply.bytes (r : Reply) : List Byte :=
  [r.tag, r.kind] ++ putU8 r.code.code
    ++ r.summary.stations.q0.bytes ++ r.summary.stations.q1.bytes
    ++ r.summary.stations.q2.bytes ++ r.summary.stations.q3.bytes
    ++ putU8 r.summary.closedCount ++ putU16 r.summary.oldestClosed ++ putMark r.summary.lineStop
    ++ putU8 r.summary.flags.byte ++ putU8 r.payloadTag.code ++ r.payload

end Sys2Proof.Machine
end

