-- ==== Sys2Proof/Machine/Reports.lean ====
section
/-! DEFINITION. The report store RS (Chapter 9): opening, gathering, closing, verdict, serialised form. -/

namespace Sys2Proof.Machine

/-! ### Marks and entries (R156 to R160) -/

/-- The class of a defect code (9.3). -/
def DefectCode.cls : DefectCode → DefectClass
  | .speedNotReached | .speedDeviation | .torqueLimit | .noiseOrder | .grossLeak | .leakRate
  | .leakBusy => .checkFailure
  | .noiseNotJudged | .orderRange | .leakNotJudged => .judgementGap
  | .ventTimeout | .stopTimeout => .process
  | .noRecipe | .recursion | .chainDepth | .noLimits | .noAngle | .runaway => .fault
  | .overspeed | .overtorque | .feedbackLost => .safety

/-- The mark a defect sets (R156). -/
def Basis.defect (m : Basis) (c : DefectCode) : Basis :=
  match c.cls with
  | .fault => { m with fault := true }
  | .safety => { m with safety := true }
  | .checkFailure => { m with fail := true }
  | .judgementGap => { m with gap := true }
  | .process => { m with process := true }

/-- The mark a segment result sets (R156). -/
def Basis.segment (m : Basis) : SegOutcome → Basis
  | .failed => { m with fail := true }
  | .notJudged => { m with gap := true }
  | _ => m

/-- The mark an order result sets (R156). -/
def Basis.order (m : Basis) : OrderVerdict → Basis
  | .fail => { m with fail := true }
  | .notJudged => { m with gap := true }
  | _ => m

/-- The mark a leak result sets (R156). -/
def Basis.leak (m : Basis) : LeakOutcome → Basis
  | .fail => { m with fail := true }
  | .notJudged => { m with gap := true }
  | _ => m

/-- A segment result reaches a record (R156, R157). -/
def Record.addSegment (x : SegResult) (r : Record) : Record :=
  if r.segs.length < Config.maxSegResults then
    { r with basis := r.basis.segment x.outcome, segs := r.segs ++ [x] }
  else { r with basis := r.basis.segment x.outcome, segsTruncated := true }

/-- An order result reaches a record (R156, R158). -/
def Record.addOrder (x : OrderResult) (r : Record) : Record :=
  if r.orders.length < Config.maxOrderResults then
    { r with basis := r.basis.order x.verdict, orders := r.orders ++ [x] }
  else { r with basis := r.basis.order x.verdict, ordersTruncated := true }

/-- The defect list holds the code. -/
def hasDefect (ds : List DefectEntry) (c : DefectCode) : Bool := ds.any fun d => decide (d.code = c)

/-- One more occurrence of a code already in the list (R159). -/
def bumpDefect (ds : List DefectEntry) (c : DefectCode) : List DefectEntry :=
  ds.map fun d => if d.code = c then { d with count := satAdd 255 d.count 1 } else d

/-- A defect reaches a record (R156, R159). -/
def Record.addDefect (c : DefectCode) (ordinal : Nat) (r : Record) : Record :=
  if hasDefect r.defects c then
    { r with basis := r.basis.defect c, defects := bumpDefect r.defects c }
  else if r.defects.length < Config.maxDefects then
    { r with basis := r.basis.defect c, defects := r.defects ++ [⟨c, ordinal, 1⟩] }
  else { r with basis := r.basis.defect c, defectsTruncated := true }

/-- A leak result reaches a record (R156, R160). -/
def Record.placeLeak (x : LeakResult) (r : Record) : Record :=
  { r with basis := r.basis.leak x.outcome, leak := some x }

/-! ### Slots -/

/-- The record with an id, OPEN or CLOSED. -/
def findRecord : List (Option Record) → Nat → Option Record
  | [], _ => none
  | some r :: rest, id => if r.id = id then some r else findRecord rest id
  | none :: rest, id => findRecord rest id

/-- The slots with `f` applied to the OPEN record of an id; an entry aimed at no OPEN record does
nothing (R156). -/
def mapOpen (slots : List (Option Record)) (id : Nat) (f : Record → Record) : List (Option Record) :=
  slots.map fun o =>
    match o with
    | some r => if r.id = id ∧ r.closed = false then some (f r) else some r
    | none => none

def Store.onOpen (t : Store) (id : Nat) (f : Record → Record) : Store :=
  { t with slots := mapOpen t.slots id f }

/-- The index of the first FREE slot. Which FREE slot is taken cannot be seen (R154), log entry 11. -/
def firstFree (slots : List (Option Record)) : Option Nat := slots.findIdx? Option.isNone

/-- FREE, OPEN and CLOSED slots (R33, R153). -/
def Store.freeCount (t : Store) : Nat := t.slots.countP Option.isNone

def Store.openCount (t : Store) : Nat :=
  t.slots.countP fun o => match o with
    | some r => !r.closed
    | none => false

/-- The id is held in a slot, OPEN or CLOSED. -/
def Store.holds (t : Store) (id : Nat) : Bool := (findRecord t.slots id).isSome

/-- One rise of the id counter, from 65535 to 0 (R155). -/
def nextCount (c : Nat) : Nat := if c = 65535 then 0 else c + 1

/-- The counter rises again while it is 0 or the id of a held record (R155); at most 16 ids are held, so
17 rises are enough. -/
def settleId (t : Store) : Nat → Nat → Nat
  | 0, c => c
  | n + 1, c => if c = 0 ∨ t.holds c = true then settleId t n (nextCount c) else c

/-- The id the next record takes (R155). -/
def Store.nextId (t : Store) : Nat := settleId t 17 (nextCount t.idCounter)

/-- A new record as R154 gives it. -/
def newRecord (id : Nat) (station : StNo) (code top : Nat) (serial : List Byte) (now : Word) : Record :=
  { id := id, station := station, code := code, topRecipe := top, serial := serial,
    admitStamp := now, closeStamp := none, verdict := none, stopReason := none,
    segsTruncated := false, ordersTruncated := false, defectsTruncated := false, segs := [],
    orders := [], defects := [], leak := none, basis := ⟨false, false, false, false, false⟩,
    closed := false }

/-- A record is opened in a FREE slot (R154, R155). -/
def Store.openRecord (t : Store) (station : StNo) (code top : Nat) (serial : List Byte) (now : Word) :
    Store :=
  match firstFree t.slots with
  | some k =>
    { t with
      slots := t.slots.set k (some (newRecord t.nextId station code top serial now))
      idCounter := t.nextId }
  | none => t

/-! ### Closing (R161, R162) -/

/-- The verdict of a record: the first row of R162 that applies. -/
def verdictOf (m : Basis) (reason : Option StopReason) : Verdict :=
  if m.fault || m.safety then .faulted
  else if reason = some .operator ∨ reason = some .tableReplaced ∨ reason = some .cellReset then
    .aborted
  else if m.fail then .fail
  else if m.gap || m.process then .notJudged
  else .pass

/-- A record at its close, steps 1 to 4 of R161. -/
def Record.close (now : Word) (reason : Option StopReason) (r : Record) : Record :=
  { r with
    closeStamp := some now, stopReason := reason, verdict := some (verdictOf r.basis reason),
    closed := true }

/-- The verdict with which the OPEN record of an id would close. -/
def Store.verdictAtClose (t : Store) (id : Nat) (reason : Option StopReason) : Option Verdict :=
  match findRecord t.slots id with
  | some r => if r.closed then none else some (verdictOf r.basis reason)
  | none => none

/-- The OPEN record of an id closes and its id joins the end of the close-order queue (R161, R163). -/
def Store.closeRecord (t : Store) (id : Nat) (now : Word) (reason : Option StopReason) : Store :=
  match t.verdictAtClose id reason with
  | some _ =>
    { t with slots := mapOpen t.slots id (Record.close now reason), closeQueue := t.closeQueue ++ [id] }
  | none => t

/-- A CLOSED record is released: its slot becomes FREE, its id leaves the queue (R165). -/
def Store.release (t : Store) (id : Nat) : Store :=
  { t with
    slots := t.slots.map fun o =>
      match o with
      | some r => if r.id = id ∧ r.closed = true then none else some r
      | none => none
    closeQueue := t.closeQueue.filter fun k => decide (k ≠ id) }

/-! ### The serialised record (R164, R181) -/

def SegResult.bytes (x : SegResult) : List Byte :=
  putU8 x.recipe ++ putU8 x.index ++ putU8 x.kind.code ++ putU8 x.outcome.code ++ putU32 x.duration
    ++ putU32 x.maxError ++ putU32 x.maxTorque ++ putMark x.clamped

def Level.bytes (l : Level) : List Byte := putU16 l.level ++ putMark l.sat

def OrderResult.bytes (x : OrderResult) : List Byte :=
  putU8 x.ordinal ++ putU16 x.order ++ putU8 (x.band.getD 255) ++ putU8 x.verdict.code
    ++ putU8 x.voids ++ putU8 x.levels.length ++ (x.levels.map Level.bytes).flatten

def DefectEntry.bytes (d : DefectEntry) : List Byte :=
  putU8 d.code.code ++ putU16 d.ordinal ++ putU8 d.count

def optU32 : Option Nat → List Byte
  | some n => putU32 n
  | none => []

def Computed.bytes (c : Computed) : List Byte :=
  putU32 c.bEnd ++ putU32 c.t ++ putU16 c.rate.q ++ putU8 (markBits [c.rate.rise, c.rate.sat])

def optComputed : Option Computed → List Byte
  | some c => c.bytes
  | none => []

def leakBytes : Option LeakResult → List Byte
  | none => putMark false
  | some x => putMark true ++ putU8 x.outcome.code ++ putU8 (leakReasonCode x.reason)
      ++ putU8 (markBits [x.fillTime.isSome, x.bStart.isSome, x.computed.isSome])
      ++ optU32 x.fillTime ++ optU32 x.bStart ++ optComputed x.computed

def optWord : Option Word → Nat
  | some w => w.toNat
  | none => 0

def optVerdict : Option Verdict → Nat
  | some v => v.code
  | none => 0

/-- The header of the serialised record (R181). -/
def Record.headerBytes (r : Record) : List Byte :=
  putU16 r.id ++ putU8 r.station.val ++ putU16 r.code ++ putU8 r.topRecipe
    ++ putU32 r.admitStamp.toNat ++ putU32 (optWord r.closeStamp) ++ putU8 (optVerdict r.verdict)
    ++ putU8 (stopReasonCode r.stopReason)
    ++ putU8 (markBits [r.segsTruncated, r.ordersTruncated, r.defectsTruncated])
    ++ putU8 r.serial.length ++ r.serial

/-- The serialised record (R164, R181). -/
def Record.bytes (r : Record) : List Byte :=
  r.headerBytes
    ++ (putU8 r.segs.length ++ (r.segs.map SegResult.bytes).flatten)
    ++ (putU8 r.orders.length ++ (r.orders.map OrderResult.bytes).flatten)
    ++ (putU8 r.defects.length ++ (r.defects.map DefectEntry.bytes).flatten)
    ++ leakBytes r.leak

/-- Chunk `n` of a serialised record (R164). -/
def chunkOf (bytes : List Byte) (n : Nat) : List Byte :=
  (bytes.drop (Config.chunkSize * n)).take Config.chunkSize

/-- The payload tag that names a chunk's place (R164). -/
def chunkTag (len n : Nat) : PayloadTag :=
  if n = 0 then (if len ≤ Config.chunkSize then .reportSingle else .reportFirst)
  else if len ≤ Config.chunkSize * (n + 1) then .reportLast else .reportMiddle

end Sys2Proof.Machine
end

