-- ==== Sys2Proof/Machine/Outputs.lean ====
section
/-! DEFINITION. The output unit OU (Chapter 10): PASS, REJECT and LINESTOP. -/

namespace Sys2Proof.Machine

/-- The REJECT pin is asserted while the state is PULSING or CAUGHT (10.1). -/
def Output.rejectPin (o : Output) : Bool :=
  decide (o.reject = .pulsing) || decide (o.reject = .caught)

/-- A pulse begins, with the width in force taken afresh (R170). -/
def Output.beginPulse (su : Setup) (o : Output) : Output :=
  { o with reject := .pulsing, pulseTimer := 0, width := su.width }

/-- A trigger waits, or is lost where four wait (R170, R172). -/
def Output.wait (o : Output) : Output :=
  if o.pending < Config.maxPending then { o with pending := o.pending + 1 }
  else { o with lost := countUp o.lost }

/-- A trigger by the station's reject mode (R170, R172). -/
def Output.trigger (su : Setup) (o : Output) : Output :=
  match su.rejectMode, o.reject with
  | .pulse, .ready => o.beginPulse su
  | .pulse, _ => o.wait
  | .catch, .ready => { o with reject := .caught }
  | .catch, _ => o.wait

/-- The verdict of a close sets the PASS level or gives a REJECT trigger (R169). -/
def Output.verdict (su : Setup) (v : Verdict) (o : Output) : Output :=
  match v with
  | .pass => { o with pass := true }
  | .aborted => o
  | .fail => o.trigger su
  | .notJudged => o.trigger su
  | .faulted => o.trigger su

/-- The end of a recovery: the next pending pulse, or READY (R171). R171 gives no value to the pulse timer
and the recovery timer of a READY station, and the worked table of 10.3.1 prints 0 there; the model keeps
the last values, which no rule reads (DESIGN CHOICE, log entry 33). -/
def Output.endRecovery (su : Setup) (o : Output) : Output :=
  if 0 < o.pending then ({ o with pending := o.pending - 1 }).beginPulse su
  else { o with reject := .ready }

/-- The end of a pulse: recovery with the R in force taken afresh, ended at once where it is 0 (R171). -/
def Output.endPulse (su : Setup) (o : Output) : Output :=
  let o' := { o with reject := .recovering, recoveryTimer := 0, recovery := su.recovery }
  if su.recovery = 0 then o'.endRecovery su else o'

/-- The timers of a station in PULSE mode at a ring cycle event (R171). -/
def Output.tickTimers (o : Output) : Output :=
  match o.reject with
  | .pulsing => { o with pulseTimer := o.pulseTimer + 1 }
  | .recovering => { o with recoveryTimer := o.recoveryTimer + 1 }
  | _ => o

/-- CLEAR_REJECT by the station's reject mode (R173). -/
def Output.clearReject (su : Setup) (o : Output) : Output :=
  match su.rejectMode with
  | .catch => { o with reject := .ready, pending := 0 }
  | .pulse => { o with pending := 0 }

/-- What a change of reject mode does (R174). -/
def Output.modeChange (o : Output) : Output :=
  { o with reject := .ready, pulseTimer := 0, recoveryTimer := 0, pending := 0 }

/-- What CELL_RESET does, after the closes (R176). -/
def Output.cellReset (o : Output) : Output :=
  { o with pass := false, reject := .ready, pulseTimer := 0, recoveryTimer := 0, pending := 0 }

/-- The output unit's cycle work of a station in PULSE mode; the end of a pulse or a recovery falls due
as a step of its own (R171). -/
def Bench.outputWork (b : Bench) : Bench :=
  match b.setup.rejectMode with
  | .catch => b
  | .pulse =>
    let o := b.st.ou.tickTimers
    let b' := b.setOu o
    match o.reject with
    | .pulsing => if o.width ≤ o.pulseTimer then b'.raise .pulseEnd else b'
    | .recovering => if o.recovery ≤ o.recoveryTimer then b'.raise .recoveryEnd else b'
    | _ => b'

/-- PULSE_END (R171). -/
def Bench.pulseEnd (b : Bench) : Bench := b.setOu (b.st.ou.endPulse b.setup)

/-- RECOVERY_END (R171). -/
def Bench.recoveryEnd (b : Bench) : Bench := b.setOu (b.st.ou.endRecovery b.setup)

end Sys2Proof.Machine
end

