-- ==== Sys2Proof/Machine/Drive.lean ====
section
/-! DEFINITION. Drive control DC (Chapter 5): parameters in force, setpoint, limits, steadiness,
supervision. What a trip or the end of a segment does to the station is in StationControl.lean. -/

namespace Sys2Proof.Machine

/-- The magnitude cap of a speed: to `v` with its own sign (R86, R87). -/
def clampTo (v : Nat) (x : Int) : Int := max (-(v : Int)) (min x v)

/-- One step of the setpoint toward the target, at most `q` (R87). -/
def stepToward (s t : Int) (q : Nat) : Int :=
  if (t - s).natAbs ≤ q then t else if s < t then s + q else s - q

/-- The rest parameters of an admitted station (R84). -/
def restParams (su : Setup) : Params :=
  { target := 0, rate := su.stopRate, band := su.zeroBand, persist := none, torqueCheck := none }

/-- The parameters a RAMP, DWELL or LISTEN brings (R84). -/
def motionParams (m : Motion) (tc : Option Nat) : Params :=
  { target := m.target, rate := m.rate, band := m.band, persist := some m.persist, torqueCheck := tc }

/-- The parameters a working segment brings; none for LEAK_START and LEAK_WAIT, which keep those in
force (R84). -/
def SegBody.params : SegBody → Option Params
  | .ramp m tc _ => some (motionParams m (some tc))
  | .dwell m tc _ => some (motionParams m (some tc))
  | .listen m _ _ _ _ => some (motionParams m none)
  | _ => none

/-- The torque check limit in force. -/
def Drive.torqueCheck (d : Drive) : Option Nat := d.params.bind Params.torqueCheck

/-- The persist P in force. -/
def Drive.persist (d : Drive) : Option Nat := d.params.bind Params.persist

/-- The band in force. -/
def Drive.band (d : Drive) : Nat := (d.params.map Params.band).getD 0

/-- The torque limit of a driving station (R88). -/
def driveLimit (tc : Option Nat) (maxTorque : Nat) : Nat :=
  match tc with
  | some t => min t maxTorque
  | none => maxTorque

/-- Drive enable and torque limit as they follow the state (R88). -/
def Bench.follow (b : Bench) : Bench :=
  match b.st.sc.state, b.st.sc.stopKind with
  | .idle, _ => b.setDc { b.st.dc with enable := false, torqueLimit := 0 }
  | .stopping, some .coast => b.setDc { b.st.dc with enable := false, torqueLimit := 0 }
  | .stopping, _ => b.setDc { b.st.dc with enable := true, torqueLimit := b.setup.maxTorque }
  | _, _ =>
    b.setDc { b.st.dc with
      enable := true
      torqueLimit := driveLimit b.st.dc.torqueCheck b.setup.maxTorque }

/-- The drive is disabled with setpoint 0 and torque limit 0 (R88, R98). -/
def Drive.disable (d : Drive) : Drive := { d with enable := false, setpoint := 0, torqueLimit := 0 }

/-- HELD and FINISHING: the target becomes the setpoint as it stands (R84). -/
def Drive.freeze (d : Drive) : Drive :=
  { d with params := d.params.map fun p => { p with target := d.setpoint } }

/-- A working segment begins (R84): runs and figures cleared; a RAMP, DWELL or LISTEN brings its
parameters and clears the reached mark, the dwell count and the steady flag. What is read of the flag later
in the same event, the leak unit's eligible cycle first, reads it cleared (DESIGN CHOICE, log entry 32). -/
def Drive.begin (body : SegBody) (d : Drive) : Drive :=
  let d := { d with devRun := 0, torqueRun := 0, maxError := 0, maxTorque := 0, clamped := false }
  match body.params with
  | some p => { d with params := some p, reached := false, dwell := 0, steady := false }
  | none => d

/-- The entry into STOPPING: target 0 at the station stop rate, marks and runs cleared (R84, R98). -/
def Drive.stop (su : Setup) (d : Drive) : Drive :=
  { d with
    params := some { target := 0, rate := su.stopRate, band := d.band, persist := none,
                     torqueCheck := none }
    reached := false, steady := false, devRun := 0, torqueRun := 0, dwell := 0 }

/-- The station is RUNNING, HELD or FINISHING. -/
def StState.driving : StState → Bool
  | .running | .held | .finishing => true
  | _ => false

/-! ### Steps 2 and 3 of the work at a ring cycle event (R85) -/

/-- The target in force before the clamp: 0 in STOPPING (R86). -/
def Bench.rawTarget (b : Bench) : Int :=
  if b.st.sc.state = .stopping then 0 else (b.st.dc.params.map Params.target).getD 0

/-- The rate in force: the station stop rate in STOPPING (R87). -/
def Bench.rate (b : Bench) : Nat :=
  if b.st.sc.state = .stopping then b.setup.stopRate else (b.st.dc.params.map Params.rate).getD 0

/-- The target T of the cycle (R86). -/
def Bench.target (b : Bench) : Int := clampTo b.vmax b.rawTarget

/-- The new setpoint (R87): 0 in COAST. -/
def Bench.newSetpoint (b : Bench) : Int :=
  if b.st.sc.stopKind = some .coast ∧ b.st.sc.state = .stopping then 0
  else clampTo b.vmax (stepToward b.st.dc.setpoint b.target b.rate)

/-- The steady condition of the cycle (R89). -/
def Bench.steadyNow (b : Bench) : Bool :=
  b.st.sc.state.driving && decide (b.newSetpoint = b.st.dc.setpoint)
    && decide (b.newSetpoint = b.target)
    && match b.speed.freshValue with
      | some v => decide ((v - b.newSetpoint).natAbs ≤ b.st.dc.band)
      | none => false

/-- The dwell count after the event (R94): 0 when the reached mark is first set, then one more at each
later event of a DWELL. -/
def Bench.newDwell (b : Bench) : Nat :=
  match b.st.sc.segment with
  | some ⟨_, .dwell _ _ _⟩ =>
    if b.st.dc.reached then satAdd Config.longCount b.st.dc.dwell 1 else 0
  | _ => b.st.dc.dwell

/-- The event counts for the figures of the segment in progress: it lies after the segment's beginning, so
the segment timer has risen (R65). A segment begun and ended within one event has figures 0 (R101). -/
def Bench.figured (b : Bench) : Bool := decide (0 < b.st.sc.segTimer)

/-- Steps 2 and 3 of drive control's work (R85 to R89, R94). Step 3 of R85 names no station state for the
reached mark; R90 and R98 tie it to RUNNING, HELD and FINISHING, so a station in STOPPING whose setpoint
reaches its target 0 keeps it clear (DESIGN CHOICE, log entry 34). -/
def Bench.form (b : Bench) : Bench :=
  if b.st.sc.state = .idle then b
  else
    (b.setDc { b.st.dc with
      setpoint := b.newSetpoint
      formed := b.target
      clamped := b.st.dc.clamped
        || (decide (b.st.sc.state = .running) && b.figured && decide (b.target ≠ b.rawTarget))
      reached := b.st.dc.reached
        || (b.st.sc.state.driving && decide (b.newSetpoint = b.target))
      dwell := b.newDwell
      steady := b.steadyNow }).follow

/-! ### Step 4: supervision (R90 to R92, R101) -/

/-- A figure raised to a magnitude, saturating (R101). -/
def raiseFigure (old : Nat) (x : Option Int) : Nat :=
  match x with
  | some v => max old (min v.natAbs Config.timerTop)
  | none => old

/-- A consecutive run: one more on a bad cycle, 0 on a good one, unchanged with no value (R90 to R92). -/
def nextRun (run : Nat) (bad : Option Bool) : Nat :=
  match bad with
  | some true => satAdd 255 run 1
  | some false => 0
  | none => run

/-- |speed − setpoint| with held speed counted as its last value (R90, R91). -/
def Bench.speedError (b : Bench) : Option Int := b.speed.value.map fun v => v - b.st.dc.setpoint

/-- The cycle's torque against the check limit in force (R92). -/
def Bench.overTorque (b : Bench) : Option Bool :=
  match b.st.dc.torqueCheck, b.torque.value with
  | some lim, some v => some (decide (lim < v.natAbs))
  | _, _ => none

/-- A reading as the figures take it: none at the event of the segment's beginning (R101). -/
def Bench.forFigure (x : Option Int) (b : Bench) : Option Int := if b.figured then x else none

/-- The supervision of a working segment at an event (R90 to R92, R101). The figures are raised here, at step 4,
so a segment that has ended earlier in the event, by a trip of step 1, does not take the cycle of that event
(DESIGN CHOICE, log entry 35). -/
def Bench.superviseRuns (b : Bench) : Bench :=
  let d := { b.st.dc with maxTorque := raiseFigure b.st.dc.maxTorque (b.forFigure b.torque.value) }
  if b.st.dc.reached then
    let d := { d with maxError := raiseFigure d.maxError (b.forFigure b.speedError) }
    match b.st.dc.persist with
    | some _ =>
      b.setDc { d with
        devRun := nextRun d.devRun (b.speedError.map fun e => decide (b.st.dc.band < e.natAbs))
        torqueRun := nextRun d.torqueRun b.overTorque }
    | none => b.setDc d
  else b.setDc d

/-- The deviation run has reached P (R91). -/
def Drive.deviates (d : Drive) : Bool :=
  match d.persist with
  | some p => d.reached && decide (p ≤ d.devRun)
  | none => false

/-- The torque run has reached P with a torque check limit in force (R92). -/
def Drive.overTorque (d : Drive) : Bool :=
  match d.persist, d.torqueCheck with
  | some p, some _ => d.reached && decide (p ≤ d.torqueRun)
  | _, _ => false

/-- Which step the segment's own completion test or time limit makes due, after the supervision
(R85, R93, R94, R96). -/
def Bench.segmentEvent (b : Bench) (body : SegBody) : Option StEvent :=
  match body with
  | .ramp _ _ limit =>
    if b.st.dc.steady ∧ 0 < b.st.sc.segTimer then some .rampDone
    else if limit ≤ b.st.sc.segTimer then some .speedNotReached else none
  | .dwell _ _ duration =>
    if b.st.dc.reached ∧ duration ≤ b.st.dc.dwell then some .dwellDone else none
  | .leakWait limit => if limit ≤ b.st.sc.segTimer then some .leakWaitTimeout else none
  | _ => none

/-- Step 4 of drive control's work: supervision, completion, time limit (R85). -/
def Bench.supervise (b : Bench) : Bench :=
  match b.st.sc.state, b.st.sc.segment with
  | .running, some g =>
    let b := b.superviseRuns
    if b.st.dc.deviates then b.raise .speedDeviation
    else if b.st.dc.overTorque then b.raise .torqueLimit
    else
      match b.segmentEvent g.body with
      | some e => b.raise e
      | none => b
  | _, _ => b

end Sys2Proof.Machine
end

