-- ==== Sys2Proof/Machine/Orders.lean ====
section
/-! DEFINITION. Order-level arithmetic, band lookup and vote (Chapter 7, R117 to R125, R131). -/

namespace Sys2Proof.Machine

/-- The table value at an index modulo E (R118). -/
def tableAt (p : ListenParams) (i : Nat) : Int := p.table.getD (i % p.e) 0

/-- One value x[k] added to the two sums of an order line (R118); an OUT_OF_RANGE line takes none (R117). -/
def Accum.add (p : ListenParams) (k : Nat) (x : Int) (l : PointLine) (a : Accum) : Accum :=
  if l.computed then
    { c := a.c + x * tableAt p (l.order * k), s := a.s + x * tableAt p (l.order * k + 3 * p.e / 4) }
  else a

/-- One value x[k] added to every line's sums (R118). -/
def addAll (p : ListenParams) (k : Nat) (x : Int) : List PointLine → List Accum → List Accum
  | l :: ls, a :: as => a.add p k x l :: addAll p k x ls as
  | _, _ => []

/-- The cleared accumulators of a window, one pair per line (R118). -/
def clearAccums (ls : List PointLine) : List Accum := ls.map fun _ => ⟨0, 0⟩

/-- Stage 2: the sum over 32768, to nearest, ties away from zero (R119). -/
def scale (x : Int) : Int :=
  if 0 ≤ x then (((x.toNat + 16384) / 32768 : Nat) : Int)
  else -((((-x).toNat + 16384) / 32768 : Nat) : Int)

/-- The root found bit by bit from bit `n - 1` down, starting from `g`. -/
def rootBits (x : Nat) : Nat → Nat → Nat
  | 0, g => g
  | n + 1, g => if (g + 2 ^ n) * (g + 2 ^ n) ≤ x then rootBits x n (g + 2 ^ n) else rootBits x n g

/-- Stage 3: the largest integer whose square does not exceed `x`, for x below 2^60 (R120). -/
def rootFloor (x : Nat) : Nat := rootBits x 30 0

/-- The magnitude G of an accumulator pair (R119, R120). -/
def Accum.magnitude (a : Accum) : Nat :=
  rootFloor ((scale a.c).natAbs * (scale a.c).natAbs + (scale a.s).natAbs * (scale a.s).natAbs)

/-- Stage 4: the level of a magnitude over E·N values, saturated at 65535 (R121). -/
def levelOf (g en : Nat) : Level :=
  if 65535 < roundDiv (2 * g) en then { level := 65535, sat := true }
  else { level := roundDiv (2 * g) en, sat := false }

/-- The speed band of a window: how many edges are at or below its speed (R122). -/
def Point.bandOf (p : Point) (speed : Nat) : Nat :=
  (if p.edge1 ≤ speed then 1 else 0) + (if p.edge2 ≤ speed then 1 else 0)
    + (if p.edge3 ≤ speed then 1 else 0)

/-- The limit of a band (R122). -/
def BandLimits.at_ (l : BandLimits) (band : Nat) : Nat :=
  match band with
  | 0 => l.b0
  | 1 => l.b1
  | 2 => l.b2
  | _ => l.b3

/-- A VALID window counted for one line (R123). -/
def PointLine.count (band : Nat) (lv : Level) (l : PointLine) : PointLine :=
  if l.computed ∧ l.verdict = .undecided then
    if l.limits.at_ band < lv.level then
      { l with
        levels := l.levels ++ [lv], lastBand := some band, exceed := l.exceed + 1
        verdict := if 2 ≤ l.exceed + 1 then .fail else .undecided }
    else
      { l with
        levels := l.levels ++ [lv], lastBand := some band, clear := l.clear + 1
        verdict := if 2 ≤ l.clear + 1 then .pass else .undecided }
  else l

/-- A VALID window counted for every line in order-line order (R123). -/
def voteAll (band en : Nat) : List PointLine → List Accum → List PointLine
  | l :: ls, a :: as => l.count band (levelOf a.magnitude en) :: voteAll band en ls as
  | ls, _ => ls

/-- Every order line is settled (R125). -/
def Point.settled (p : Point) : Bool := p.lines.all fun l => decide (l.verdict ≠ .undecided)

/-- A line as its point begins: COMPUTED and UNDECIDED below E/2, else OUT_OF_RANGE and NOT_JUDGED
(R116, R117). -/
def OrderLine.begin (e : Nat) (o : OrderLine) : PointLine :=
  { order := o.order, limits := o.limits, computed := decide (2 * o.order < e), exceed := 0, clear := 0,
    verdict := if 2 * o.order < e then .undecided else .notJudged, levels := [], lastBand := none }

/-- The point as a LISTEN begins (R116). -/
def beginPoint (setNo : Nat) (ls : LimitSet) (e maxAttempts timeLimit ordinal : Nat) : Point :=
  { limitSet := setNo, edge1 := ls.edge1, edge2 := ls.edge2, edge3 := ls.edge3,
    maxAttempts := maxAttempts, timeLimit := timeLimit, ordinal := ordinal,
    lines := ls.lines.map (OrderLine.begin e) }

/-- An UNDECIDED line becomes NOT_JUDGED, cut off (R125, R126, R129). -/
def PointLine.cutOff (l : PointLine) : PointLine :=
  if l.verdict = .undecided then { l with verdict := .notJudged } else l

def Point.cutOff (p : Point) : Point := { p with lines := p.lines.map PointLine.cutOff }

/-- The order result of a line (R131). -/
def PointLine.result (p : Point) (voids : Nat) (l : PointLine) : OrderResult :=
  { ordinal := p.ordinal, order := l.order, band := l.lastBand, verdict := l.verdict,
    levels := l.levels, voids := voids }

/-- The one defect a line records, if any (R127). -/
def PointLine.defect (l : PointLine) : Option DefectCode :=
  match l.verdict with
  | .fail => some .noiseOrder
  | .notJudged => if l.computed then some .noiseNotJudged else some .orderRange
  | _ => none

/-- The outcome of the LISTEN whose point has finished (R128). -/
def Point.outcome (p : Point) : SegOutcome :=
  if p.lines.any fun l => decide (l.verdict = .fail) then .failed
  else if p.lines.any fun l => decide (l.verdict = .notJudged) then .notJudged
  else .done

/-- The window speed in 0.1 rpm, rounded (R107). -/
def windowSpeed (n ts : Nat) : Nat := roundDiv (19200000 * n) ts

end Sys2Proof.Machine
end

