-- ==== Sys2Proof/Machine/Windows.lean ====
section
/-! DEFINITION. The angle window unit AW (Chapter 6): the angle step, window start, collection, close,
void and abandonment. -/

namespace Sys2Proof.Machine

/-- The angle step of a set (R103): none when the last angle is none. -/
def AngleUnit.step (a : AngleUnit) (x : SampleSet) : Option Int :=
  a.lastAngle.map fun l => (x.angle - l).toInt

/-- The accelerometer value of the configured channel. -/
def SampleSet.accel (x : SampleSet) : Channel → Int
  | .a => x.a
  | .b => x.b

/-- E·N of the listening parameters. -/
def ListenParams.span (p : ListenParams) : Nat := p.e * p.n

/-- The leak unit is in FILL. -/
def Bench.filling (b : Bench) : Bool :=
  match b.st.lu with
  | some a => decide (a.phase = .fill)
  | none => false

/-- A LISTEN is in progress. -/
def Bench.listening (b : Bench) : Bool :=
  match b.st.sc.segment with
  | some g => decide (b.st.sc.state = .running) && decide (g.body.kind = .listen)
  | none => false

/-- The start conditions of R105 other than the step. -/
def Bench.mayStart (b : Bench) : Bool :=
  b.listening && b.st.dc.steady && !b.filling && headSynced b.heads b.setup.vibrationHead

/-- A window starts at a set (R105): x[0] is taken, T_s and k are 0. -/
def Bench.startWindow (x : SampleSet) (step : Int) (b : Bench) : Bench :=
  match b.st.aw.params, b.st.point with
  | some p, some pt =>
    b.setAw { b.st.aw with
      state := .collecting
      window := some
        { startAngle := x.angle, direction := if 0 < step then .up else .down, k := 0, ts := 0,
          speed := none, state := .collecting, reason := none,
          accums := addAll p 0 (x.accel p.channel) pt.lines (clearAccums pt.lines) } }
  | _, _ => b

/-- A set with a step tested as a start while SEEKING (R105). -/
def Bench.testStart (x : SampleSet) (step : Int) (b : Bench) : Bench :=
  if step ≠ 0 ∧ b.mayStart = true ∧ b.st.aw.state = .seeking then b.startWindow x step else b

/-- The attempts have reached the segment's max with a line still UNDECIDED (R125). -/
def Bench.exhausted (b : Bench) : Bool :=
  match b.st.point with
  | some p => !p.settled && decide (p.maxAttempts ≤ b.st.aw.attempts)
  | none => false

/-- The point tests whether its attempts have run out; the cut-off falls due as a step of its own
(R124, R125). -/
def Bench.testCutOff (b : Bench) : Bench := if b.exhausted then b.raise .listenCutOff else b

/-- The window in progress ends VOID (R113): attempts and void count rise, the point is told. The
window speed is kept for SPEED alone, and the accumulators are dropped (R118). -/
def Bench.voidWindow (r : VoidReason) (speed : Option Nat) (b : Bench) : Bench :=
  if b.st.aw.state = .collecting then
    (b.setAw { b.st.aw with
      state := .seeking
      attempts := b.st.aw.attempts + 1
      voids := b.st.aw.voids + 1
      window := b.st.aw.window.map fun w =>
        { w with state := .void, reason := some r, speed := speed, accums := [] } }).testCutOff
  else b

/-- A window in progress is abandoned uncounted, its accumulators are dropped, and the unit becomes INACTIVE
(R104, R114, R118). -/
def AngleUnit.endListen (a : AngleUnit) : AngleUnit :=
  { a with
    state := .inactive
    params := none
    window := if a.state = .collecting then a.window.map fun w => { w with state := .abandoned, accums := [] }
      else a.window }

/-- The listening parameters are taken and the unit becomes SEEKING (R104). -/
def AngleUnit.beginListen (p : ListenParams) (a : AngleUnit) : AngleUnit :=
  { a with state := .seeking, params := some p, attempts := 0, voids := 0 }

/-- The step lies in the window direction (R106). -/
def Direction.along (d : Direction) (step : Int) : Bool :=
  match d with
  | .up => decide (0 < step)
  | .down => decide (step < 0)

/-- A set while COLLECTING (R106): T_s rises; then the set acts by its step. The close of the window and
a window that is SLOW fall due as steps of their own. -/
def Bench.collect (x : SampleSet) (step : Int) (b : Bench) : Bench :=
  match b.st.aw.params, b.st.aw.window, b.st.point with
  | some p, some w, some pt =>
    if Config.slowCount ≤ w.ts + 1 then b.raise .slow
    else
      let w := { w with ts := w.ts + 1 }
      let b := b.setAw { b.st.aw with window := some w }
      if step = 0 then b
      else if w.direction.along step then
        if step.natAbs = 1 then
          if w.k + 1 < p.span then
            b.setAw { b.st.aw with
              window := some { w with
                k := w.k + 1
                accums := addAll p (w.k + 1) (x.accel p.channel) pt.lines w.accums } }
          else
            (b.setAw { b.st.aw with window := some { w with k := w.k + 1 } }).raise
              (.windowClose x step)
        else b.voidWindow .skipped none
      else b.voidWindow .direction none
  | _, _, _ => b

/-- A sample set received (R103, R105, R106): handled by the unit state, then it supplies the last angle. -/
def Bench.sampleSet (x : SampleSet) (b : Bench) : Bench :=
  let step := b.st.aw.step x
  let b := b.setAw { b.st.aw with lastAngle := some x.angle }
  match step with
  | none => b
  | some d =>
    match b.st.aw.state with
    | .inactive => b
    | .seeking => b.testStart x d
    | .collecting => b.collect x d

/-- A gap or loss-of-sync signal of the vibration head (R103, R110). -/
def Bench.gapSignal (b : Bench) : Bench :=
  (b.setAw { b.st.aw with lastAngle := none }).voidWindow .gap none

/-- An absent cycle of the vibration head voids a collecting window and keeps the last angle (R103,
R110). -/
def Bench.absentSignal (b : Bench) : Bench := b.voidWindow .gap none

/-- A collecting window meets the steady flag formed at the event (R111). -/
def Bench.steadyTest (b : Bench) : Bench :=
  if b.st.dc.steady then b else b.voidWindow .unsteady none

/-- The segment timer against the point's time limit (R126). -/
def Bench.listenLimit (b : Bench) : Bench :=
  match b.st.point with
  | some p => if b.listening ∧ p.timeLimit ≤ b.st.sc.segTimer then b.raise .listenTimeLimit else b
  | none => b

/-- SLOW (R106). -/
def Bench.slow (b : Bench) : Bench := b.voidWindow .slow none

/-- A VALID window is handed to the point (R108, R123): the attempts rise and every line counts it. -/
def Bench.handOver (w : WindowRecord) (p : ListenParams) (pt : Point) (speed : Nat) (b : Bench) : Bench :=
  (b.setAw { b.st.aw with
    state := .seeking
    attempts := b.st.aw.attempts + 1
    window := some { w with state := .valid, speed := some speed } }).setPoint
    (some { pt with lines := voteAll (pt.bandOf speed) p.span pt.lines w.accums })

/-- The window speed differs from |T| by more than the band in force (R108). -/
def Bench.offSpeed (speed : Nat) (b : Bench) : Bool :=
  decide (b.st.dc.band < ((speed : Int) - (b.st.dc.formed.natAbs : Int)).natAbs)

end Sys2Proof.Machine
end

