-- ==== Sys2Proof/Machine/Leak.lean ====
section
/-! DEFINITION. The leak unit LU (Chapter 8): the activity, its phases, its averaging blocks and the
leak-rate computation. What DONE does to the station is in StationControl.lean. -/

namespace Sys2Proof.Machine

/-- Fill and vent valve by phase (R139). -/
def fillValve : Option Activity → Bool
  | some a => decide (a.phase = .fill)
  | none => false

def ventValve : Option Activity → Bool
  | some a => decide (a.phase = .vent)
  | none => false

/-- An activity that is not DONE is in progress (R132). -/
def inProgress : Option Activity → Bool
  | some a => decide (a.phase ≠ .done)
  | none => false

/-- The phase of an activity is one before VENT, so its result is not yet fixed (R150). -/
def LeakPhase.beforeVent : LeakPhase → Bool
  | .fillWait | .fill | .settle | .measure => true
  | _ => false

/-- The activity enters a phase with phase timer 0; the phase is first worked at the next event (R135). -/
def Activity.enter (p : LeakPhase) (a : Activity) : Activity :=
  { a with
    phase := p, timer := 0
    mark := if a.mark = .started then .started else .entered }

/-- A new activity in FILL_WAIT (R134). -/
def newActivity (owner : Nat) (p : LeakParams) (volume limit : Nat) : Activity :=
  { phase := .fillWait, owner := owner, params := p, volume := volume, leakLimit := limit,
    ambient := none, clock := 0, timer := 0, fillTime := none, measureEntry := none, block := none,
    bStart := none, computed := none, result := none, reason := none, mark := .started }

/-- The leak result of an activity whose result is fixed (R147). -/
def Activity.leakResult (a : Activity) (o : LeakOutcome) : LeakResult :=
  { outcome := o, reason := a.reason, fillTime := a.fillTime, bStart := a.bStart.map Prod.fst,
    computed := a.computed }

/-- The result is fixed and the activity enters VENT: a partial block is discarded, and in FILL the fill
time is the phase timer (R145, R147, R150; log entry 16). Where that happens at a ring cycle event before the
leak unit works, by a trip, a fault or a LEAK_WAIT time limit, the phase timer has not risen for the event yet, and the
cycle that the event closes is not counted (DESIGN CHOICE, log entry 37). -/
def Activity.fix (o : LeakOutcome) (r : Option LeakReason) (a : Activity) : Activity :=
  { a.enter .vent with
    result := some o, reason := r, block := none
    fillTime := if a.phase = .fill ∧ a.fillTime = none then some a.timer else a.fillTime }

/-- A defect found by the station (R62): the OPEN record takes it with the executed-segment count. -/
def Bench.recordDefect (c : DefectCode) (b : Bench) : Bench :=
  b.setStore (b.store.onOpen b.st.sc.recordId (Record.addDefect c b.st.sc.executed))

/-- A defect of the leak activity, recorded in the owning record if it is this station's OPEN one
(R145, R152). -/
def Bench.leakDefect (owner : Nat) (c : Option DefectCode) (b : Bench) : Bench :=
  match c with
  | some c =>
    if owner = b.st.sc.recordId then
      b.setStore (b.store.onOpen owner (Record.addDefect c b.st.sc.executed))
    else b
  | none => b

/-- The leak result placed in the owning record (R147, R160). -/
def Bench.placeLeak (owner : Nat) (x : LeakResult) (b : Bench) : Bench :=
  if owner = b.st.sc.recordId then b.setStore (b.store.onOpen owner (Record.placeLeak x)) else b

/-- The result of the activity is fixed, its defect recorded, its leak result placed, and it vents
(R145). An activity in VENT or DONE keeps its result (R149, R150). -/
def Bench.fixLeak (o : LeakOutcome) (r : Option LeakReason) (c : Option DefectCode) (b : Bench) : Bench :=
  match b.st.lu with
  | some a =>
    if a.phase.beforeVent then
      ((b.setLu (some (a.fix o r))).leakDefect a.owner c).placeLeak a.owner ((a.fix o r).leakResult o)
    else b
  | none => b

/-- The activity of a station that enters STOPPING or is reset (R150, R151). -/
def Bench.abortLeak (b : Bench) : Bench := b.fixLeak .aborted none none

/-- A new activity starts; AIR_SHORT is set when the supply is LOW (R134). -/
def Bench.startLeak (p : LeakParams) (b : Bench) : Bench :=
  let v := (b.st.sc.variantSlot.bind fun k => entryAt b.lib.variants k)
  let b := b.setLu (some (newActivity b.st.sc.recordId p ((v.map Variant.volume).getD 0)
    ((v.map Variant.leakLimit).getD 0)))
  if b.supplyOk then b else { b with flags := b.flags.setAirShort }

/-! ### Eligible cycles and blocks (R140 to R143) -/

/-- The normalised pressure n of a cycle (R143). -/
def normalise (pAmb pGauge : Nat) (temp : Int) : Nat :=
  roundDiv ((pGauge + pAmb) * 29315) (temp + 27315).toNat

/-- The normalised pressure of the closed cycle when it is eligible (R140). Where step 4 of drive control's
work at this event began a RAMP, DWELL or LISTEN, the steady flag read here is the one that this beginning
cleared, so the cycle is not eligible (DESIGN CHOICE, log entry 32). -/
def Bench.eligible (pAmb : Nat) (b : Bench) : Option Nat :=
  match b.process.slots.housing.freshValue, b.process.slots.airTemp.freshValue with
  | some p, some t =>
    if headSynced b.heads b.setup.processHead ∧ b.process.absent = false ∧ b.process.signalled = false
        ∧ 0 ≤ p ∧ p ≤ 400000 ∧ -4000 ≤ t ∧ t ≤ 15000 ∧ b.st.dc.steady = true then
      some (normalise pAmb p.toNat t)
    else none
  | _, _ => none

/-- A block with one more judged cycle: begun, filled on, or broken (R141). -/
def nextBlock (blk : Option Block) (clock : Nat) (n : Option Nat) : Option Block :=
  match n, blk with
  | none, _ => none
  | some n, none => some { sum := n, count := 1, first := clock }
  | some n, some k => some { k with sum := k.sum + n, count := k.count + 1 }

/-- The block holds A cycles. -/
def blockFull (blk : Option Block) (a : Nat) : Bool :=
  match blk with
  | some k => decide (a ≤ k.count)
  | none => false

/-- The block value: the mean rounded half up (R143). -/
def Block.value (k : Block) (a : Nat) : Nat := roundDiv k.sum a

/-- The leak rate of a decay over a span (R144). -/
def leakRate (bStart bEnd volume t : Nat) : LeakRate :=
  if bStart ≤ bEnd then { q := 0, rise := decide (bStart < bEnd), sat := false }
  else if 65535 < roundDiv ((bStart - bEnd) * volume * 6000000) (101325 * t) then
    { q := 65535, rise := false, sat := true }
  else
    { q := roundDiv ((bStart - bEnd) * volume * 6000000) (101325 * t), rise := false, sat := false }

/-- The computation passes the leak limit (R145): a saturated rate never does. -/
def LeakRate.passes (r : LeakRate) (limit : Nat) : Bool := !r.sat && decide (r.q ≤ limit)

/-! ### The per-cycle work (R135) -/

/-- FILL_WAIT (R136). -/
def Bench.workFillWait (a : Activity) (b : Bench) : Bench :=
  if b.supplyOk then b.raise .fill
  else if b.cell.supplyWait ≤ a.timer then b.raise .supplyWaitLimit else b

/-- FILL (R137). -/
def Bench.workFill (a : Activity) (b : Bench) : Bench :=
  match b.process.slots.housing.freshValue with
  | some p =>
    if (a.params.fillTarget : Int) ≤ p then b.raise .settle
    else if a.params.fillTimeout ≤ a.timer then b.raise .grossLeak else b
  | none => if a.params.fillTimeout ≤ a.timer then b.raise .grossLeak else b

/-- SETTLE (R138). -/
def Bench.workSettle (a : Activity) (b : Bench) : Bench :=
  if a.params.settle ≤ a.timer then b.raise .measure else b

/-- MEASURE, the start block: a full block, the deadline, or on (R141). -/
def Bench.workStart (a : Activity) (b : Bench) : Bench :=
  let blk := nextBlock a.block a.clock (b.eligible (a.ambient.getD 0))
  let b := b.setLu (some { a with block := blk })
  if blockFull blk a.params.averaging then b.raise .startBlock
  else if a.measureEntry.getD 0 + a.params.averaging + a.params.holdLimit ≤ a.clock then
    b.raise .disturbed
  else b

/-- MEASURE, the end block: no cycle before s + M, then as the start block (R142). -/
def Bench.workEnd (first : Nat) (a : Activity) (b : Bench) : Bench :=
  if a.clock < first + a.params.measure then b
  else
    let blk := nextBlock a.block a.clock (b.eligible (a.ambient.getD 0))
    let b := b.setLu (some { a with block := blk })
    if blockFull blk a.params.averaging then b.raise .endBlock
    else if first + a.params.measure + a.params.averaging + a.params.holdLimit ≤ a.clock then
      b.raise .disturbed
    else b

/-- VENT (R146). -/
def Bench.workVent (a : Activity) (b : Bench) : Bench :=
  match b.process.slots.housing.freshValue with
  | some p =>
    if p ≤ (a.params.ventThreshold : Int) then b.raise .ventDone
    else if a.params.ventTimeout ≤ a.timer then b.raise .ventTimeout else b
  | none => if a.params.ventTimeout ≤ a.timer then b.raise .ventTimeout else b

/-- The rule of the activity's phase; what ends a phase falls due as a step of its own (R135). -/
def Bench.workPhase (a : Activity) (b : Bench) : Bench :=
  match a.phase with
  | .fillWait => b.workFillWait a
  | .fill => b.workFill a
  | .settle => b.workSettle a
  | .measure =>
    match a.bStart with
    | none => b.workStart a
    | some (_, first) => b.workEnd first a
  | .vent => b.workVent a
  | .done => b

/-- The leak unit's per-cycle work (R135). An activity started within the event does none; one whose
phase was entered within it counts its clock only (R149). -/
def Bench.leakWork (b : Bench) : Bench :=
  match b.st.lu with
  | none => b
  | some a =>
    if a.phase = .done then b
    else
      match a.mark with
      | .started => b
      | .entered => b.setLu (some { a with clock := tick a.clock })
      | .old =>
        let a := { a with clock := tick a.clock, timer := tick a.timer }
        (b.setLu (some a)).workPhase a

/-! ### The leak unit's steps -/

/-- FILL: the fill valve opens and a collecting window ends HISS (R137, R112). -/
def Bench.fill (b : Bench) : Bench :=
  match b.st.lu with
  | some a => (b.setLu (some (a.enter .fill))).voidWindow .hiss none
  | none => b

/-- SUPPLY_WAIT_LIMIT (R136). -/
def Bench.supplyWaitLimit (b : Bench) : Bench :=
  b.fixLeak .notJudged (some .airShort) (some .leakNotJudged)

/-- SETTLE: the fill time becomes the phase timer (R137). -/
def Bench.settlePhase (b : Bench) : Bench :=
  match b.st.lu with
  | some a => b.setLu (some { a.enter .settle with fillTime := some a.timer })
  | none => b

/-- GROSS_LEAK: the fill time becomes the fill timeout (R137). -/
def Bench.grossLeak (b : Bench) : Bench :=
  match b.st.lu with
  | some a =>
    (b.setLu (some { a with fillTime := some a.params.fillTimeout })).fixLeak .fail (some .grossLeak)
      (some .grossLeak)
  | none => b

/-- MEASURE: the measure entry and the ambient pressure are taken, no block is in progress (R138). -/
def Bench.measure (b : Bench) : Bench :=
  match b.st.lu with
  | some a =>
    b.setLu (some { a.enter .measure with
      measureEntry := some a.clock, ambient := some b.cell.ambient, block := none })
  | none => b

/-- START_BLOCK: B_start and s are fixed (R141). -/
def Bench.startBlock (b : Bench) : Bench :=
  match b.st.lu with
  | some a =>
    match a.block with
    | some k => b.setLu (some { a with bStart := some (k.value a.params.averaging, k.first), block := none })
    | none => b
  | none => b

/-- END_BLOCK: the leak rate is computed and judged against the leak limit, and the activity vents
(R142, R144, R145). -/
def Bench.endBlock (b : Bench) : Bench :=
  match b.st.lu with
  | some a =>
    match a.block, a.bStart with
    | some k, some (bs, first) =>
      let be := k.value a.params.averaging
      let t := k.first - first
      let rate := leakRate bs be a.volume t
      let b := b.setLu (some { a with computed := some { bEnd := be, t := t, rate := rate } })
      if rate.passes a.leakLimit then b.fixLeak .pass none none
      else b.fixLeak .fail (some .leakRate) (some .leakRate)
    | _, _ => b
  | none => b

/-- DISTURBED (R141, R142). -/
def Bench.disturbed (b : Bench) : Bench :=
  b.fixLeak .notJudged (some .disturbed) (some .leakNotJudged)

/-- The activity enters DONE: both valves close (R146). -/
def Bench.leakDone (b : Bench) : Bench :=
  match b.st.lu with
  | some a => b.setLu (some (a.enter .done))
  | none => b

end Sys2Proof.Machine
end

