-- ==== Sys2Proof/Machine/StationControl.lean ====
section
/-! DEFINITION. The station controller SC (Chapter 4): segment results, stepping, flow segments, holds,
stops, safety trips and closes. -/

namespace Sys2Proof.Machine

/-! ### Closing (R73, R161) -/

/-- The station becomes IDLE: context and drive control take their IDLE values, the listening ends, the
run mode is kept (R58, R83). -/
def Bench.becomeIdle (b : Bench) : Bench :=
  { b with
    st := { b.st with
      sc := Context.idle, dc := Drive.idle, aw := b.st.aw.endListen, point := none } }

/-- The variant count falls if variant use is held (R53, R73). -/
def Bench.releaseVariant (b : Bench) : Bench :=
  match b.st.sc.variantUse, b.st.sc.variantSlot with
  | true, some v =>
    (b.setLib (b.lib.dropVariant v)).setSc { b.st.sc with variantUse := false }
  | _, _ => b.setSc { b.st.sc with variantUse := false }

/-- The verdict at the close reaches the output unit (R161 step 6, R169); at CELL_RESET it is without
effect there (R176). -/
def Bench.tellVerdict (quiet : Bool) (v : Option Verdict) (b : Bench) : Bench :=
  match quiet, v with
  | false, some v => b.setOu (b.st.ou.verdict b.setup v)
  | _, _ => b

/-- The station's record closes and the station becomes IDLE (R73, R161). A station that is IDLE has no
record to close. -/
def Bench.closeRecord (quiet : Bool) (b : Bench) : Bench :=
  if b.st.sc.state = .idle then b
  else
    let v := b.store.verdictAtClose b.st.sc.recordId b.st.sc.stopReason
    let b := b.setStore (b.store.closeRecord b.st.sc.recordId b.now b.st.sc.stopReason)
    let b := { b with flags := b.flags.setReportReady }
    (b.tellVerdict quiet v).releaseVariant.becomeIdle

/-! ### Segment results (R66, R101) -/

/-- The result of the segment in progress (R101). -/
def Bench.segResult (g : Segment) (o : SegOutcome) (b : Bench) : SegResult :=
  { recipe := b.topRecipe, index := b.st.sc.index, kind := g.body.kind, outcome := o,
    duration := b.st.sc.segTimer, maxError := b.st.dc.maxError, maxTorque := b.st.dc.maxTorque,
    clamped := b.st.dc.clamped }

/-- A segment result reaches the OPEN record (R156, R157). -/
def Bench.appendSegment (x : SegResult) (b : Bench) : Bench :=
  b.setStore (b.store.onOpen b.st.sc.recordId (Record.addSegment x))

/-- A LISTEN's uses end, its unit becomes INACTIVE and its point NONE (R54, R104, R116); any other segment
uses nothing. -/
def Bench.endListen (b : Bench) : Bench :=
  match b.st.point with
  | some p =>
    ((b.setLib (b.lib.dropListen p.limitSet b.setup.angleTable)).setAw b.st.aw.endListen).setPoint none
  | none => b

/-- The working segment in progress ends: its result is appended and its uses end (R66). -/
def Bench.finishSegment (g : Segment) (o : SegOutcome) (b : Bench) : Bench :=
  let b := (b.appendSegment (b.segResult g o)).endListen
  b.setSc { b.st.sc with segment := none }

/-! ### Stopping (R76 to R81) -/

/-- The segment in progress, if any, ends ABANDONED (R76, R82, R130). -/
def Bench.abandonSegment (b : Bench) : Bench :=
  match b.st.sc.segment with
  | some g => b.finishSegment g .abandoned
  | none => b

/-- The call chain is cleared and the count of every recipe it held falls (R52, R76). -/
def Bench.clearChain (b : Bench) : Bench :=
  (b.setLib (b.lib.dropChain b.st.sc.chain)).setSc { b.st.sc with chain := [] }

/-- A stop of kind COAST disables the drive with setpoint 0 at once (R77, R98). -/
def Bench.coast (b : Bench) : Bench :=
  (b.setSc { b.st.sc with stopKind := some .coast }).setDc b.st.dc.disable

/-- A station that is RUNNING, HELD or FINISHING enters STOPPING (R76). -/
def Bench.enterStopping (kind : StopKind) (reason : StopReason) (b : Bench) : Bench :=
  if b.st.sc.state.driving then
    let b := b.abandonSegment.clearChain.abortLeak
    let b := b.setSc { b.st.sc with
      state := .stopping, stopKind := some .controlled, stopReason := some reason, stopTimer := 0,
      holdReason := none }
    let b := (b.setDc (b.st.dc.stop b.setup)).follow
    match kind with
    | .controlled => b
    | .coast => b.coast
  else b

/-- A fault after the commit (R61): the defect is recorded and the station stops CONTROLLED, FAULT. -/
def Bench.faultTest (c : DefectCode) (b : Bench) : Bench :=
  (b.recordDefect c).enterStopping .controlled .fault

/-- A safety trip reported by drive control (R81). -/
def Bench.trip (c : DefectCode) (b : Bench) : Bench :=
  if b.st.sc.state = .idle then b
  else
    let b := if b.st.sc.state = .stopping then b.coast else b.enterStopping .coast .safety
    let b := (b.setSc { b.st.sc with safety := true }).recordDefect c
    { b with lineStop := true, flags := b.flags.setSafety }

/-- A leak activity stands in the way of a stop or of the end of a test (R74, R79). -/
def Bench.leakBusy (b : Bench) : Bool := inProgress b.st.lu

/-- The three conditions of a complete stop (R79). -/
def Bench.stopped (b : Bench) : Bool :=
  decide (b.st.sc.state = .stopping) && decide (b.st.dc.setpoint = 0) && !b.leakBusy
    && match b.speed.freshValue with
      | some v => decide (v.natAbs ≤ b.setup.zeroBand)
      | none => false

/-- The test for stop completion after drive control's work; the completion falls due as a step (R79). -/
def Bench.stopTest (b : Bench) : Bench := if b.stopped then b.raise .stopComplete else b

/-- The stop timer against the stop timeout; a stop that is complete at the event completes (R80). -/
def Bench.stopLimit (b : Bench) : Bench :=
  if b.st.sc.state = .stopping ∧ b.setup.stopTimeout ≤ b.st.sc.stopTimer then
    if b.stopped then b.raise .stopComplete else b.raise .stopTimeout
  else b

/-! ### Holds (R64, R66, R71, R84) -/

/-- The station becomes HELD with the index of the segment to be taken up (R64, R66): the target is
frozen at the setpoint (R84). -/
def Bench.holdAt (r : HoldReason) (idx : Nat) (b : Bench) : Bench :=
  ((b.setSc { b.st.sc with state := .held, holdReason := some r, index := idx }).setDc
    b.st.dc.freeze).follow

/-- The chain has ended: FINISHING while the leak activity is not DONE, else the record closes (R74). -/
def Bench.endOfTest (b : Bench) : Bench :=
  if b.leakBusy then
    ((b.setSc { b.st.sc with state := .finishing, holdReason := none }).setDc b.st.dc.freeze).follow
  else b.closeRecord false

/-! ### Stepping (R63 to R69) -/

/-- Where a station stands after a piece of stepping: it stops here, or it reaches an index of the top
recipe. -/
inductive Flow where
  | halt (b : Bench)
  | reach (idx : Nat) (b : Bench)

/-- After a working segment has ended DONE, FAILED or NOT_JUDGED, by the run mode (R66). -/
def Bench.afterSegment (o : SegOutcome) (b : Bench) : Flow :=
  match b.st.mode with
  | .hold => .halt (b.holdAt .mode (b.st.sc.index + 1))
  | .step => .halt ((b.setMode .hold).holdAt .step (b.st.sc.index + 1))
  | .run =>
    if o = .failed ∧ b.st.sc.stopOnFail = true then .halt (b.holdAt .fail (b.st.sc.index + 1))
    else .reach (b.st.sc.index + 1) b
  | .runThrough => .reach (b.st.sc.index + 1) b

/-- The chain holds a recipe. -/
def chainHolds (ch : List ChainEntry) (r : Nat) : Bool := ch.any fun c => decide (c.recipe = r)

/-- CALL (R67). -/
def Bench.call (r idx : Nat) (b : Bench) : Flow :=
  if (entryAt b.lib.recipes r).isNone then .halt (b.faultTest .noRecipe)
  else if chainHolds b.st.sc.chain r then .halt (b.faultTest .recursion)
  else if Config.chainDepth ≤ b.st.sc.chain.length then .halt (b.faultTest .chainDepth)
  else
    .reach 0 ((b.setLib (b.lib.useRecipe r)).setSc { b.st.sc with
      chain := ⟨r, some (idx + 1)⟩ :: b.st.sc.chain, stopOnFail := b.lib.stopOnFail r })

/-- CHAIN (R68). -/
def Bench.chainTo (r : Nat) (b : Bench) : Flow :=
  if (entryAt b.lib.recipes r).isNone then .halt (b.faultTest .noRecipe)
  else if chainHolds b.st.sc.chain.tail r then .halt (b.faultTest .recursion)
  else
    match b.st.sc.chain with
    | top :: below =>
      let lib := if top.recipe = r then b.lib else (b.lib.dropRecipe top.recipe).useRecipe r
      .reach 0 ((b.setLib lib).setSc { b.st.sc with
        chain := ⟨r, top.ret⟩ :: below, stopOnFail := b.lib.stopOnFail r })
    | [] => .halt b

/-- END (R69). -/
def Bench.finish (b : Bench) : Flow :=
  match b.st.sc.chain with
  | top :: next :: below =>
    .reach (top.ret.getD 0) ((b.setLib (b.lib.dropRecipe top.recipe)).setSc { b.st.sc with
      chain := next :: below, stopOnFail := b.lib.stopOnFail next.recipe })
  | [top] =>
    .halt (((b.setLib (b.lib.dropRecipe top.recipe)).setSc { b.st.sc with chain := [] }).endOfTest)
  | [] => .halt b

/-- What beginning a working segment comes to: it is in progress, it ended within the event that began
it, or the test faulted. -/
inductive Begun where
  | running (b : Bench)
  | ended (o : SegOutcome) (b : Bench)
  | faulted (b : Bench)

/-- SC takes up a working segment (R63): index, timer, pause release and state. -/
def Bench.takeUp (g : Segment) (idx : Nat) (b : Bench) : Bench :=
  ((b.setSc { b.st.sc with
      state := .running, holdReason := none, index := idx, segTimer := 0, pauseRelease := false,
      segment := some g }).setDc (b.st.dc.begin g.body)).follow

/-- A LISTEN that cannot begin (R61, R63): a FAULTED segment result of duration 0 and figures 0, then the
fault. -/
def Bench.faultListen (c : DefectCode) (idx : Nat) (b : Bench) : Bench :=
  (b.appendSegment
    { recipe := b.topRecipe, index := idx, kind := .listen, outcome := .faulted, duration := 0,
      maxError := 0, maxTorque := 0, clamped := false }).faultTest c

/-- The angle table the setup names, when it is PRESENT and its E times N fits (R63). -/
def Bench.usableAngles (n : Nat) (b : Bench) : Option AngleTable :=
  match entryAt b.lib.angles b.setup.angleTable with
  | some t => if t.state = .present ∧ t.e * n ≤ Config.maxWindow then some t else none
  | none => none

/-- The listening point writes its results to the OPEN record (R127): first every order result, then every
defect, both in order-line order. -/
def Bench.writePoint (b : Bench) : Bench :=
  match b.st.point with
  | none => b
  | some p =>
    let p := p.cutOff
    let store := p.lines.foldl
      (fun t l => t.onOpen b.st.sc.recordId (Record.addOrder (l.result p b.st.aw.voids))) b.store
    let store := p.lines.foldl
      (fun t l =>
        match l.defect with
        | some c => t.onOpen b.st.sc.recordId (Record.addDefect c p.ordinal)
        | none => t) store
    (b.setStore store).setPoint (some p)

/-- The outcome the point gives its LISTEN (R128). -/
def Bench.pointOutcome (b : Bench) : SegOutcome :=
  match b.st.point with
  | some p => p.outcome
  | none => .done

/-- A LISTEN begins (R63, R104, R116): its uses rise, AW takes its parameters, the point becomes
LISTENING; a point with nothing to collect finishes at once (R117, R125). -/
def Bench.beginListen (g : Segment) (idx setNo n maxAttempts timeLimit : Nat) (b : Bench) : Begun :=
  match entryAt b.lib.limits setNo with
  | none => .faulted (b.faultListen .noLimits idx)
  | some ls =>
    match b.usableAngles n with
    | none => .faulted (b.faultListen .noAngle idx)
    | some t =>
      let b := b.takeUp g idx
      let b := b.setLib (b.lib.useListen setNo b.setup.angleTable)
      let b := b.setAw (b.st.aw.beginListen
        { e := t.e, n := n, channel := b.setup.channel, table := t.values })
      let p := beginPoint setNo ls t.e maxAttempts timeLimit b.st.sc.executed
      let b := b.setPoint (some p)
      if p.settled then .ended p.outcome b.writePoint else .running b

/-- A working segment begins (R63, R95, R96). -/
def Bench.beginSegment (g : Segment) (idx : Nat) (b : Bench) : Begun :=
  match g.body with
  | .listen _ timeLimit setNo n maxAttempts => b.beginListen g idx setNo n maxAttempts timeLimit
  | .leakStart p =>
    let b := b.takeUp g idx
    if b.leakBusy then .ended .failed (b.recordDefect .leakBusy) else .ended .done (b.startLeak p)
  | .leakWait _ =>
    let b := b.takeUp g idx
    if b.leakBusy then .running b else .ended .done b
  | _ => .running (b.takeUp g idx)

/-- What follows the beginning of a segment: a segment ended within the event is finished and the run
mode applies (R66). -/
def Begun.next (g : Segment) : Begun → Flow
  | .running b => .halt b
  | .faulted b => .halt b
  | .ended o b => (b.finishSegment g o).afterSegment o

/-- The segment at an index of the top recipe is reached and, if it is not held by PAUSE, executed or
begun (R64). A top recipe that holds no such segment cannot stand in a chain (R39, R40); the model then
faults NO_RECIPE (log entry 12). -/
def Bench.reachOne (idx : Nat) (b : Bench) : Flow :=
  match b.lib.segment b.topRecipe idx with
  | none => .halt (b.faultTest .noRecipe)
  | some g =>
    match g.body with
    | .call r => b.call r idx
    | .chain r => b.chainTo r
    | .finish => b.finish
    | _ =>
      if g.pause ∧ b.st.mode = .run ∧ b.st.sc.pauseRelease = false then .halt (b.holdAt .pause idx)
      else (b.beginSegment g idx).next g

/-- The executed-segment count rises by 1 (R64). -/
def Bench.countSegment (b : Bench) : Bench :=
  b.setSc { b.st.sc with executed := satAdd Config.runawayCount b.st.sc.executed 1 }

/-- SC reaches an index of the top recipe and goes on until a working segment begins, the station is
held or the test ends; the 256th segment makes RUNAWAY due (R64). The count rises at every turn, so 257
turns are enough. -/
def advance : Nat → Nat → Bench → Bench
  | 0, _, b => b
  | fuel + 1, idx, b =>
    let b := b.countSegment
    if b.st.sc.executed = Config.runawayCount then b.raise .runaway
    else
      match b.reachOne idx with
      | .halt b => b
      | .reach idx b => advance fuel idx b

/-- A piece of stepping carried to its end. -/
def Flow.run : Flow → Bench
  | .halt b => b
  | .reach idx b => advance 257 idx b

/-- The working segment in progress ends with an outcome (R66); with none in progress nothing ends. -/
def Bench.endSegment (o : SegOutcome) (b : Bench) : Bench :=
  match b.st.sc.state, b.st.sc.segment with
  | .running, some g => ((b.finishSegment g o).afterSegment o).run
  | _, _ => b

/-- The segment in progress is of a kind. -/
def Bench.inKind (k : SegKind) (b : Bench) : Bool :=
  match b.st.sc.state, b.st.sc.segment with
  | .running, some g => decide (g.body.kind = k)
  | _, _ => false

/-! ### The steps of SC and DC -/

/-- Drive control, step 1: one condition and its latch (R99). -/
def Bench.testTrip (c : DefectCode) (holds latched : Bool) (setLatch : Bool → Drive → Drive) (b : Bench) :
    Bench :=
  let b := if holds && !latched then b.trip c else b
  b.setDc (setLatch holds b.st.dc)

/-- The magnitude of a fresh value exceeds a limit (R99). -/
def freshOver (r : Reading) (limit : Nat) : Bool :=
  match r.freshValue with
  | some v => decide (limit < v.natAbs)
  | none => false

/-- The feedback run after the event and whether the latch clears (R100). `enabled` is the enable in
force at the end of the closed cycle. -/
def Drive.feedbackStep (enabled fresh : Bool) (d : Drive) : Drive :=
  if enabled then
    if fresh then { d with feedback := 0, latchFeedback := false }
    else { d with feedback := satAdd Config.maxFeedback d.feedback 1 }
  else { d with feedback := 0 }

/-- Drive control, step 1: OVERSPEED, OVERTORQUE, then the feedback run, whose trip falls due as a step of
its own (R85, R99, R100). -/
def Bench.trips (b : Bench) : Bench :=
  if b.st.sc.state = .idle then b
  else
    let enabled := b.st.dc.enable
    let b := b.testTrip .overspeed (freshOver b.speed b.setup.tripSpeed) b.st.dc.latchSpeed
      fun x d => { d with latchSpeed := x }
    let b := b.testTrip .overtorque (freshOver b.torque b.setup.tripTorque) b.st.dc.latchTorque
      fun x d => { d with latchTorque := x }
    let b := b.setDc (b.st.dc.feedbackStep enabled b.speed.freshValue.isSome)
    if enabled ∧ b.speed.freshValue = none ∧ b.setup.feedbackTimeout ≤ b.st.dc.feedback
        ∧ b.st.dc.latchFeedback = false then b.raise .feedbackLost
    else b

/-- FEEDBACK_LOST (R100, R81). -/
def Bench.feedbackLost (b : Bench) : Bench :=
  let b := b.trip .feedbackLost
  b.setDc { b.st.dc with latchFeedback := true }

/-- SPEED_DEVIATION (R91, R92, R129): the segment ends once, FAILED; a torque run that reached P at the
same event records TORQUE_LIMIT after it; a LISTEN then writes its point's results. -/
def Bench.speedDeviation (b : Bench) : Bench :=
  if b.st.sc.state = .running ∧ b.st.sc.segment.isSome = true then
    let torque := b.st.dc.overTorque
    let b := b.recordDefect .speedDeviation
    let b := if torque then b.recordDefect .torqueLimit else b
    b.writePoint.endSegment .failed
  else b

/-- TORQUE_LIMIT (R92). -/
def Bench.torqueLimit (b : Bench) : Bench :=
  if b.st.sc.state = .running ∧ b.st.sc.segment.isSome = true then
    (b.recordDefect .torqueLimit).endSegment .failed
  else b

/-- RAMP_DONE (R93). -/
def Bench.rampDone (b : Bench) : Bench := if b.inKind .ramp then b.endSegment .done else b

/-- SPEED_NOT_REACHED (R93). -/
def Bench.speedNotReached (b : Bench) : Bench :=
  if b.inKind .ramp then (b.recordDefect .speedNotReached).endSegment .failed else b

/-- DWELL_DONE (R94). -/
def Bench.dwellDone (b : Bench) : Bench := if b.inKind .dwell then b.endSegment .done else b

/-- LEAK_WAIT_TIMEOUT (R96, R149). -/
def Bench.leakWaitTimeout (b : Bench) : Bench :=
  if b.inKind .leakWait then
    (b.fixLeak .notJudged (some .timeout) (some .leakNotJudged)).endSegment .notJudged
  else b

/-- RUNAWAY (R61, R64). -/
def Bench.runaway (b : Bench) : Bench := b.faultTest .runaway

/-- STOP_COMPLETE (R79). -/
def Bench.stopComplete (b : Bench) : Bench :=
  if b.st.sc.state = .stopping then b.closeRecord false else b

/-- STOP_TIMEOUT (R80). -/
def Bench.stopTimeout (b : Bench) : Bench :=
  if b.st.sc.state = .stopping then
    (b.setDc b.st.dc.disable |>.recordDefect .stopTimeout).closeRecord false
  else b

/-- The point of a LISTEN in progress finishes: results, then the segment's outcome (R127, R128). -/
def Bench.finishPoint (b : Bench) : Bench :=
  if b.inKind .listen then
    let b := b.writePoint
    b.endSegment b.pointOutcome
  else b

/-- LISTEN_CUT_OFF (R125). -/
def Bench.listenCutOff (b : Bench) : Bench := b.finishPoint

/-- LISTEN_TIME_LIMIT (R126). -/
def Bench.listenTimeLimit (b : Bench) : Bench := b.finishPoint

/-- Every line of the point is settled. -/
def Bench.pointSettled (b : Bench) : Bool :=
  match b.st.point with
  | some p => p.settled
  | none => false

/-- WINDOW_CLOSE (R107 to R109, R123, R125): the window ends VALID or VOID SPEED; a point that is settled
finishes; otherwise, unless the attempts have run out, the closing set is tested as a start. -/
def Bench.windowClose (x : SampleSet) (step : Int) (b : Bench) : Bench :=
  match b.st.aw.window, b.st.aw.params, b.st.point with
  | some w, some p, some pt =>
    let speed := windowSpeed p.n w.ts
    if b.offSpeed speed then
      let b := b.voidWindow .speed (some speed)
      if b.exhausted then b else b.testStart x step
    else
      let b := b.handOver w p pt speed
      if b.pointSettled then b.finishPoint
      else if b.exhausted then b.raise .listenCutOff
      else b.testStart x step
  | _, _, _ => b

/-- On DONE the leak unit tells SC (R148). -/
def Bench.tellLeakDone (b : Bench) : Bench :=
  match b.st.sc.state with
  | .running => if b.inKind .leakWait then b.endSegment .done else b
  | .finishing => b.closeRecord false
  | .stopping => if b.stopped then b.closeRecord false else b
  | _ => b

/-- VENT_DONE (R146, R148). -/
def Bench.ventDone (b : Bench) : Bench := b.leakDone.tellLeakDone

/-- VENT_TIMEOUT (R146, R148, R152). -/
def Bench.ventTimeout (b : Bench) : Bench :=
  match b.st.lu with
  | some a => (b.leakDefect a.owner (some .ventTimeout)).leakDone.tellLeakDone
  | none => b

end Sys2Proof.Machine
end

