-- ==== Sys2Proof/Machine/Engine.lean ====
section
/-! DEFINITION. The work of an event within a station, in order, and the steps of the table that fall due
in it. A due step stands at the head of the work and the rest waits for it; the step is done by its
command, or before the next thing that reaches the station (log entry 1). -/

namespace Sys2Proof.Machine

/-- Segment timer and stop timer rise, and a leak activity counts as old from here on (R65, R77, R135). -/
def Bench.timers (b : Bench) : Bench :=
  let b := b.setSc { b.st.sc with
    segTimer :=
      if b.st.sc.state = .running ∧ b.st.sc.segment.isSome = true then tick b.st.sc.segTimer
      else b.st.sc.segTimer
    stopTimer :=
      if b.st.sc.state = .stopping then satAdd Config.longCount b.st.sc.stopTimer 1
      else b.st.sc.stopTimer }
  b.setLu (b.st.lu.map fun a => { a with mark := .old })

/-- The SETPOINT frame of the station becomes ready (R85). -/
def Bench.makeReady (b : Bench) : Bench := { b with st := { b.st with ready := true } }

/-- One piece of work that is not a due step. -/
def Bench.work (t : Todo) (b : Bench) : Bench :=
  match t with
  | .timers => b.timers
  | .outputs => b.outputWork
  | .absent => b.absentSignal
  | .gap => b.gapSignal
  | .sampleSet x => b.sampleSet x
  | .trips => b.trips
  | .form => b.form
  | .supervise => b.supervise
  | .ready => b.makeReady
  | .stopTest => b.stopTest
  | .leakWork => b.leakWork
  | .steadyTest => b.steadyTest
  | .listenLimit => b.listenLimit
  | .stopLimit => b.stopLimit
  | .due _ => b

/-- The effect of a due step. -/
def Bench.perform (e : StEvent) (b : Bench) : Bench :=
  match e with
  | .feedbackLost => b.feedbackLost
  | .speedDeviation => b.speedDeviation
  | .torqueLimit => b.torqueLimit
  | .rampDone => b.rampDone
  | .speedNotReached => b.speedNotReached
  | .dwellDone => b.dwellDone
  | .leakWaitTimeout => b.leakWaitTimeout
  | .runaway => b.runaway
  | .stopComplete => b.stopComplete
  | .stopTimeout => b.stopTimeout
  | .pulseEnd => b.pulseEnd
  | .recoveryEnd => b.recoveryEnd
  | .windowClose x step => b.windowClose x step
  | .slow => b.slow
  | .listenCutOff => b.listenCutOff
  | .listenTimeLimit => b.listenTimeLimit
  | .fill => b.fill
  | .supplyWaitLimit => b.supplyWaitLimit
  | .settle => b.settlePhase
  | .grossLeak => b.grossLeak
  | .measure => b.measure
  | .startBlock => b.startBlock
  | .endBlock => b.endBlock
  | .disturbed => b.disturbed
  | .ventDone => b.ventDone
  | .ventTimeout => b.ventTimeout

/-- The work of a list, up to the first due step. The bench's own `todo` is empty between pieces: what a
piece makes due goes before the rest. -/
def runWork : List Todo → Bench → Bench
  | [], b => b.setTodo []
  | .due e :: rest, b => b.setTodo (.due e :: rest)
  | t :: rest, b =>
    let b' := (b.setTodo []).work t
    match b'.st.todo with
    | [] => runWork rest b'
    | due => b'.setTodo (due ++ rest)

/-- The work behind a piece goes on: what the piece has made due stands before it (log entry 1). -/
def Bench.goOn (rest : List Todo) (b : Bench) : Bench :=
  match b.st.todo with
  | [] => runWork rest b
  | due => b.setTodo (due ++ rest)

/-- A due step is done and the work behind it goes on, up to the next due step. -/
def Bench.fire (e : StEvent) (rest : List Todo) (b : Bench) : Bench :=
  ((b.setTodo []).perform e).goOn rest

/-- All the work of a station is done, due steps included, in order. -/
def settleWork : Nat → Bench → Bench
  | 0, b => b
  | n + 1, b =>
    match b.st.todo with
    | [] => b
    | .due e :: rest => settleWork n (b.fire e rest)
    | ts => settleWork n (runWork ts b)

/-- Turns enough for a list of work: a piece makes at most three steps due one after another. -/
def workBound (ts : List Todo) : Nat := 5 * ts.length + 1

/-- All the work of a station is done. -/
def Bench.settle (b : Bench) : Bench := settleWork (workBound b.st.todo) b

/-- The work of a ring cycle event within a station, in order (R65, R85, R126, R135, R171; log entries 5
to 8). A segment that begins at the event before drive control's work, where an absent cycle has cut the
LISTEN before it off, is stepped and supervised by that work with segment timer 0: R85 gives the first
setpoint step only of a segment begun at step 4 (DESIGN CHOICE, log entry 31). A CONTROLLED stop entered there,
where the segment after such a LISTEN faults, makes its first setpoint step in that work too, so its setpoint
comes to 0 one event sooner than R98 counts from an entry at step 4 (DESIGN CHOICE, log entry 36). -/
def ringWork (absent : Bool) : List Todo :=
  [.timers, .outputs] ++ (if absent then [.absent] else [])
    ++ [.trips, .form, .supervise, .ready, .stopTest, .leakWork, .steadyTest, .listenLimit, .stopLimit]

/-! ### The stations within the machine -/

/-- Station `i` is given work and does it up to the first due step. -/
def State.give (i : StNo) (ts : List Todo) (s : State) : State :=
  s.onStation i fun b => runWork (b.st.todo ++ ts) b

end Sys2Proof.Machine
end

