-- ==== Sys2Proof/Machine/Ring.lean ====
section
/-! DEFINITION. Ring port RP, timebase TB and sample intake SI (Chapter 1), and the air-supply check
(R133). -/

namespace Sys2Proof.Machine

/-! ### Own frames (R5, R6, R8) -/

/-- The payload of station `i`'s SETPOINT frame, as drive control and leak unit stand (R8, R178). -/
def State.setpointPayload (s : State) (i : StNo) : List Byte :=
  let t := s.stations.get i
  putU8 i.val ++ putU8 (markBits [t.dc.enable, fillValve t.lu, ventValve t.lu])
    ++ putS32 t.dc.setpoint ++ putU32 t.dc.torqueLimit

/-- Own frame transmission begins: the sequence counter is written and rises (R5). -/
def State.send (what : SentKind) (dest kind : Byte) (payload : List Byte) (s : State) : State :=
  { s with
    rp := { s.rp with
      tx := some ⟨what, buildFrame dest s.rp.addr kind s.rp.ownSeq payload⟩
      ownSeq := s.rp.ownSeq + 1 } }

/-- Entries that are ANSWERED and whose replies are not in transmission (R6). -/
def Request.unsent (r : Request) : Bool :=
  match r.state with
  | .answered _ false => true
  | _ => false

/-- The entry's reply is in transmission. -/
def Request.sending (r : Request) : Bool :=
  match r.state with
  | .answered _ true => true
  | _ => false

/-- The oldest unsent entry is put in transmission. -/
def markSending : List Request → List Request
  | [] => []
  | r :: rs =>
    match r.state with
    | .answered a false => { r with state := .answered a true } :: rs
    | _ => r :: markSending rs

/-- The entry whose reply was in transmission leaves the queue (R8). -/
def dropSending : List Request → List Request
  | [] => []
  | r :: rs => if r.sending then rs else r :: dropSending rs

/-- RP takes the reply part: up to two unsent entries; an empty reply part closes the window (R6). -/
def State.takeReplies (w : Window) (s : State) : State :=
  let k := min Config.repliesPerWindow (s.queue.countP Request.unsent)
  { s with rp := { s.rp with window := if k = 0 then none else some { w with replies := some k } } }

/-! ### What the downstream side sends next (R7) -/

/-- The first own frame of the open window is ready to go (R7). -/
def State.ownReady (s : State) : Bool :=
  match s.rp.window with
  | some w =>
    match w.setpoints, w.replies with
    | (i, _) :: _, _ => (s.stations.get i).ready
    | [], some (_ + 1) => true
    | [], _ => false
  | none => false

/-- The first own frame of the window begins transmission (R5, R8). -/
def State.sendOwn (s : State) : State :=
  match s.rp.window with
  | some w =>
    match w.setpoints, w.replies with
    | (i, dest) :: rest, _ =>
      let s' := s.send .setpoint (BitVec.ofNat 8 dest) kindSetpoint (s.setpointPayload i)
      { s' with rp := { s'.rp with window := some { w with setpoints := rest } } }
    | [], some (k + 1) =>
      match s.queue.find? Request.unsent with
      | some r =>
        match r.state with
        | .answered a _ =>
          let s' := s.send .reply r.source kindReply a.bytes
          { s' with
            queue := markSending s.queue
            rp := { s'.rp with window := some { w with replies := some k } } }
        | .waiting => s
      | none => s
    | [], _ => s
  | none => s

/-- The downstream side chooses its next frame when it is idle (R7): the first own frame if it is ready,
else the oldest frame of the forwarding buffer. -/
def State.pump (s : State) : State :=
  match s.rp.tx with
  | some _ => s
  | none =>
    if s.ownReady then s.sendOwn
    else
      match s.rp.buffer with
      | f :: rest => { s with rp := { s.rp with tx := some ⟨.forwarded, f⟩, buffer := rest } }
      | [] => s

/-- A frame to be forwarded (R3). -/
def State.forward (f : Frame) (s : State) : State :=
  if s.rp.tx = none ∧ s.rp.buffer = [] ∧ s.ownReady = false then
    { s with rp := { s.rp with tx := some ⟨.forwarded, f⟩ } }
  else if s.rp.buffer.length < Config.bufferSize then
    { s with rp := { s.rp with buffer := s.rp.buffer ++ [f] } }
  else { s with rp := { s.rp with forwardDrops := countUp s.rp.forwardDrops } }

/-- What the end of a transmission does to the window and the request queue (R6, R8). -/
def State.afterSending (what : SentKind) (s : State) : State :=
  match what with
  | .forwarded => s
  | .setpoint =>
    match s.rp.window with
    | some w => if w.setpoints = [] ∧ w.replies = none then s.takeReplies w else s
    | none => s
  | .reply =>
    let s := { s with queue := dropSending s.queue }
    match s.rp.window with
    | some w =>
      if w.setpoints = [] ∧ w.replies = some 0 then { s with rp := { s.rp with window := none } } else s
    | none => s

/-- The transmission in progress ends and the side chooses its next frame (R7, R8). -/
def State.endTransmission (s : State) : State :=
  match s.rp.tx with
  | some t => (State.afterSending t.what { s with rp := { s.rp with tx := none } }).pump
  | none => s

/-! ### The due steps of a station (log entry 1) -/

/-- Station `i` as a step left it goes on with the work behind it; a frame that has become ready may then
go (R7). -/
def State.resumeWith (i : StNo) (rest : List Todo) (b : Bench) (s : State) : State :=
  (s.putBench i (b.goOn rest)).pump

/-- Station `i`'s bench without the work that waits: what a step of the station acts on. -/
def State.desk (s : State) (i : StNo) : Bench := (s.bench i).setTodo []

/-- Station `i` performs its due step and goes on with the work behind it. -/
def State.fireAt (i : StNo) (e : StEvent) (rest : List Todo) (s : State) : State :=
  s.resumeWith i rest ((s.desk i).perform e)

/-- Station `i` does its work, due steps included, in order. After each due step, as after its command, a
frame that has become ready may go (R7). -/
def State.settleAt (i : StNo) : Nat → State → State
  | 0, s => s
  | n + 1, s =>
    match (s.stations.get i).todo with
    | [] => s
    | .due e :: rest => State.settleAt i n (s.fireAt i e rest)
    | ts => State.settleAt i n (s.resumeWith i ts (s.desk i))

/-- The work of station `i` is done. -/
def State.settleStation (i : StNo) (s : State) : State :=
  s.settleAt i (workBound (s.stations.get i).todo)

/-- The work of every station is done, in station order (log entry 7). -/
def State.settleStations (s : State) : State :=
  (((s.settleStation 0).settleStation 1).settleStation 2).settleStation 3

/-! ### The transmit window (R6, R9) -/

/-- The SETPOINT list: each station whose setup names a drive head, in station order, with its
destination (R6, R48). -/
def State.setpointList (s : State) : List (StNo × Nat) :=
  allStations.filterMap fun i =>
    if (s.setups.get i).driveHead = 0 then none else some (i, (s.setups.get i).driveHead)

/-- How many unsent SETPOINT frames the window that a ring cycle event finds open still holds (R9). -/
def RingPort.unsentSetpoints (rp : RingPort) : Nat :=
  match rp.window with
  | some w => w.setpoints.length
  | none => 0

/-- At a ring cycle event the open window ends and a new one opens (R6, R9). -/
def State.openWindow (s : State) : State :=
  let w : Window := { setpoints := s.setpointList, replies := none }
  let s := { s with rp := { s.rp with
    window := some w
    overruns := satAdd Config.counterTop s.rp.overruns s.rp.unsentSetpoints } }
  if w.setpoints = [] then s.takeReplies w else s

/-- At the opening the SETPOINT frame of a station that is IDLE is ready, of any other not yet (R83). -/
def Station.clearReady (t : Station) : Station := { t with ready := decide (t.sc.state = .idle) }

/-! ### Sample intake (R13 to R17) -/

/-- The close of a head's cycle at a ring cycle event (R16); the marks are cleared for the next cycle. -/
def HeadEntry.closeCycle (h : HeadEntry) : HeadEntry :=
  { h with
    closed :=
      { slots := Slow.map2 (closeSlot (decide (h.state = .synced))) h.values h.fresh
        absent := decide (h.state = .synced) && decide (h.used = 0)
        signalled := h.signalled }
    fresh := Slow.all false, used := 0, signalled := false }

/-- "Ahead": the sequence minus the expected one, modulo 256 (R14). -/
def HeadEntry.ahead (h : HeadEntry) (seq : Byte) : Nat := (seq - h.expected).toNat

/-- A slow slot with a used frame's value, if present (R16). -/
def takeSlot (old new : Option Int) : Option Int := if new.isSome then new else old

/-- A frame is used (R14, R16): SYNCED, expected the next sequence, run 0, stamp, count, slow values. -/
def HeadEntry.use (f : Frame) (h : HeadEntry) : HeadEntry :=
  { h with
    state := .synced, expected := f.seq + 1, run := 0
    lastStamp := BitVec.ofNat 32 (u32At f.payload 0)
    used := h.used + 1
    values := Slow.map2 takeSlot h.values (slowValues f.payload)
    fresh := Slow.map2 (fun a b => a || b) h.fresh
      (Slow.map2 (fun v (_ : Bool) => v.isSome) (slowValues f.payload) h.fresh) }

/-- A gap revealed by a frame (R14). -/
def HeadEntry.gapBy (n : Nat) (h : HeadEntry) : HeadEntry :=
  { h with gap := satAdd Config.counterTop h.gap n, signalled := true }

/-- An out-of-order frame (R14, R15); a run of 3 makes LOSS_OF_SYNC due. -/
def HeadEntry.outOfTurn (h : HeadEntry) : HeadEntry :=
  { h with outOfOrder := countUp h.outOfOrder, run := h.run + 1 }

/-- A LOSS_OF_SYNC is due for the entry (R15). -/
def HeadEntry.lost (h : HeadEntry) : Bool := decide (3 ≤ h.run)

/-- Loss of sync (R15). -/
def HeadEntry.unsync (h : HeadEntry) : HeadEntry :=
  { h with
    state := .unsynced, expected := 0, run := 0, resync := countUp h.resync, signalled := true }

/-- CELL_RESET on a head entry (R20). -/
def HeadEntry.cellReset (h : HeadEntry) : HeadEntry :=
  { h with
    state := .unsynced, expected := 0, run := 0, values := Slow.all none, fresh := Slow.all false,
    used := 0, signalled := false,
    closed := { slots := Slow.all .noValue, absent := false, signalled := false } }

/-- Every station whose setup names the node as vibration head is given work (R17), in station order 0 to 3
(DESIGN CHOICE, log entry 7). -/
def State.giveVibration (node : Nat) (ts : List Todo) (s : State) : State :=
  allStations.foldl
    (fun s i => if (s.setups.get i).vibrationHead = node then s.give i ts else s) s

/-- Loss of sync of a node's entry, signalled to its consumers (R15, R17). -/
def State.loseSync (node : Nat) (s : State) : State :=
  match headOf s.heads node with
  | some h => State.giveVibration node [.gap] { s with heads := putHead s.heads node h.unsync }
  | none => s

/-- LOSS_OF_SYNC of a node whose run has reached 3 (R15): the work the stations still have to do comes first,
and a frame that has become ready may then go (R7). -/
def State.loseHead (node : Nat) (s : State) : State := (s.settleStations.loseSync node).pump

/-- A LOSS_OF_SYNC that is due is done, as its command does it. -/
def State.settleHead (s : State) (node : Nat) : State :=
  match headOf s.heads node with
  | some h => if h.lost then s.loseHead node else s
  | none => s

/-- The nodes that have a head entry, in order. -/
def nodes : List Nat := (List.range Config.nodes).map (· + 1)

/-- Every step that has fallen due is done before the next thing reaches the stations or the heads
(log entry 1), and a frame that becomes ready goes as soon as the side is idle (R7). -/
def State.settle (s : State) : State :=
  (nodes.foldl State.settleHead s.settleStations).settleStations.pump

/-- The sets of a used frame, or the gap of one frame's sets where it carries no fast block (R17). -/
def fastWork (p : List Byte) : List Todo :=
  if hasFast p then (sampleSets p).map Todo.sampleSet else [.gap]

/-- A well-formed SAMPLE frame tracked against its entry and handed on (R14, R17). -/
def State.track (f : Frame) (h : HeadEntry) (s : State) : State :=
  let node := f.src.toNat
  match h.state with
  | .unsynced =>
    State.giveVibration node (fastWork f.payload)
      { s with heads := putHead s.heads node (h.use f), flags := s.flags.setHeadResync }
  | .synced =>
    if h.ahead f.seq = 0 then
      State.giveVibration node (fastWork f.payload)
        { s with heads := putHead s.heads node (h.use f) }
    else if h.ahead f.seq ≤ 8 then
      State.giveVibration node (.gap :: fastWork f.payload)
        { s with heads := putHead s.heads node ((h.gapBy (h.ahead f.seq)).use f) }
    else { s with heads := putHead s.heads node h.outOfTurn }

/-- A good SAMPLE frame read by SI (R13). -/
def State.sampleIntake (f : Frame) (s : State) : State :=
  match headOf s.heads f.src.toNat with
  | some h =>
    if sampleWellFormed f.payload then s.track f h
    else { s with formatErrors := countUp s.formatErrors }
  | none => { s with formatErrors := countUp s.formatErrors }

/-- The supply state of the closed cycle (R133). -/
def State.supplyState (s : State) : Bool :=
  match (closedOf s.heads s.cell.supplyHead).slots.supply.freshValue with
  | some v => decide ((s.cell.supplyThreshold : Int) ≤ v)
  | none => false

/-! ### The ring cycle event -/

/-- Station `i`'s work at a ring cycle event. -/
def State.stationCycle (i : StNo) (s : State) : State :=
  s.give i (ringWork (closedOf s.heads (s.setups.get i).vibrationHead).absent)

/-- Everything a ring cycle event does after TB has taken it: window, close of the cycle, air-supply check,
the stations' work in station order, and the next frame (R6, R9, R16, R85, R133, R135, R171). -/
def State.ringCycle (s : State) : State :=
  let s := s.openWindow
  let s := { s with
    heads := s.heads.map HeadEntry.closeCycle
    stations := ⟨s.stations.q0.clearReady, s.stations.q1.clearReady, s.stations.q2.clearReady,
      s.stations.q3.clearReady⟩ }
  let s := { s with supplyOk := s.supplyState }
  ((((s.stationCycle 0).stationCycle 1).stationCycle 2).stationCycle 3).pump

/-- TB takes a CYCLE frame (R11). -/
def Timebase.take (n : Word) (t : Timebase) : Timebase :=
  { t with
    cycle := n, running := true
    slips := if t.running && decide (n ≠ t.cycle + 1) then countUp t.slips else t.slips }

/-- TB's flywheel expires (R12). -/
def Timebase.expire (t : Timebase) : Timebase :=
  { t with cycle := t.cycle + 1, flywheels := countUp t.flywheels }

/-- A good CYCLE frame read by TB; one whose length field is not 4 is not read (R11, R177). -/
def State.cycleFrame (f : Frame) (s : State) : State :=
  if f.length = 4 then
    State.ringCycle { s.settle with tb := s.settle.tb.take (BitVec.ofNat 32 (u32At f.payload 0)) }
  else s

/-! ### The request queue's end at the ring (R4, R22) -/

/-- The queue entry of a request payload (R22): missing header fields are 0. -/
def entryOf (src : Byte) (p : List Byte) : Request :=
  { source := src, kind := p.getD 0 0, tag := p.getD 1 0, force := decide (p.getD 2 0 ≠ 0),
    body := p.drop 3, arrival := arrivalOf p, state := .waiting }

/-- A good REQUEST frame offered to the queue (R4, R22). -/
def State.offer (f : Frame) (s : State) : State :=
  if s.queue.length < Config.queueSize then { s with queue := s.queue ++ [entryOf f.src f.payload] }
  else { s with flags := s.flags.setRequestLost }

/-! ### The disposition of a received frame (R2) -/

inductive Disposition where
  | checkError
  | forwardBad
  | offer
  | misdirected
  | returned
  | cycle
  | sample
  | forward
deriving DecidableEq, Repr

/-- The first row of the table of R2 that applies. -/
def dispositionOf (addr : Byte) (f : Frame) : Disposition :=
  if frameGood f then
    if f.dest = addr then (if f.kind = kindRequest then .offer else .misdirected)
    else if f.src = addr then .returned
    else if f.kind = kindCycle then .cycle
    else if f.kind = kindSample then .sample
    else .forward
  else if f.dest = addr then .checkError
  else .forwardBad

/-- What the part does with a frame received whole (R2). A frame that TB or SI reads is forwarded first:
reading it does not delay it. -/
def State.receive (f : Frame) (s : State) : State :=
  match dispositionOf s.rp.addr f with
  | .checkError =>
    { s with rp := { s.rp with checkErrors := countUp s.rp.checkErrors }
             flags := s.flags.setLinkError }
  | .forwardBad => s.forward f
  | .offer => s.offer f
  | .misdirected => { s with rp := { s.rp with misdirected := countUp s.rp.misdirected } }
  | .returned => { s with rp := { s.rp with returned := countUp s.rp.returned } }
  | .cycle => (s.forward f).cycleFrame f
  | .sample => (State.sampleIntake f (s.forward f).settle).pump
  | .forward => s.forward f

/-- The node address that straps give (R10). -/
def addressOf (straps : BitVec 5) : Byte :=
  if straps = 0 ∨ straps = 31 then 30 else straps.setWidth 8

end Sys2Proof.Machine
end

