-- ==== Sys2Proof/Machine/Requests.lean ====
section
/-! DEFINITION. The management unit MU (Chapter 2): the execution of a request, refusals, replies, and
table writes to entries in use. -/

namespace Sys2Proof.Machine

/-- What a request comes to: the state it leaves, and the code and payload of its reply (R24, R25). -/
structure Answer where
  state : State
  code : ReplyCode
  tag : PayloadTag
  payload : List Byte
deriving DecidableEq, Repr

/-- A refusal: no state changes; payload tag NONE with stopped-station count 0 (R24, R25). -/
def refuse (c : ReplyCode) (s : State) : Answer := ⟨s, c, .none, putU8 0⟩

/-- A success answered with payload tag NONE and a stopped-station count (R25). -/
def answer (c : ReplyCode) (stopped : Nat) (s : State) : Answer := ⟨s, c, .none, putU8 stopped⟩

/-- A success answered DONE with stopped-station count 0. -/
def done (s : State) : Answer := answer .done 0 s

/-- A success answered DONE with a payload of its own (R25). -/
def report (t : PayloadTag) (p : List Byte) (s : State) : Answer := ⟨s, .done, t, p⟩

/-- The entry is WAITING (2.1). -/
def Request.waiting (r : Request) : Bool :=
  match r.state with
  | .waiting => true
  | .answered _ _ => false

/-- The oldest WAITING entry becomes ANSWERED with its reply, not yet sent (R23). -/
def answerOldest (rep : Reply) : List Request → List Request
  | [] => []
  | r :: rs =>
    if r.waiting then { r with state := .answered rep false } :: rs else r :: answerOldest rep rs

/-- The checks of R24 that every request takes first, then its owning rule. -/
def checked (op : Request → State → Answer) (r : Request) (s : State) : Answer :=
  if r.arrival = .length then refuse .badLength s else op r s

/-- The reply formed at the end of an execution, its summary taken of the state left (R25, R27). -/
def formReply (r : Request) (a : Answer) : Reply :=
  { tag := r.tag, kind := r.kind, code := a.code, summary := a.state.summary, payloadTag := a.tag,
    payload := a.payload }

/-- The reply is put with the oldest WAITING entry and the six flags are cleared (R23, R28). -/
def State.reply (r : Request) (a : Answer) : State :=
  { a.state with queue := answerOldest (formReply r a) a.state.queue, flags := Flags.clear }

/-- The execution of a request (R23): its effects, then its reply. The steps that have fallen due before it
are done first (log entry 1). -/
def State.execute (op : Request → State → Answer) (r : Request) (s : State) : State :=
  State.reply r (checked op r s.settle)

/-- MU executes the oldest WAITING entry when it is of the kind meant; else nothing is executed
(R23, log entry 13). -/
def State.request (kind : Nat → Bool) (op : Request → State → Answer) (s : State) : State :=
  match s.queue.find? Request.waiting with
  | some r => if kind r.kind.toNat then s.execute op r else s
  | none => s

/-! ### Table writes to entries in use (R31, R32, R56) -/

/-- An entry of one of the four tables that count their users (3.9). -/
inductive Entry where
  | variant (slot : Nat)
  | recipe (r : Nat)
  | limits (n : Nat)
  | angle (n : Nat)
deriving DecidableEq, Repr

/-- The in-use count of an entry; 0 for an absent one. -/
def Library.inUse (l : Library) : Entry → Nat
  | .variant k => ((entryAt l.variants k).map Variant.inUse).getD 0
  | .recipe r => ((entryAt l.recipes r).map Recipe.inUse).getD 0
  | .limits n => ((entryAt l.limits n).map LimitSet.inUse).getD 0
  | .angle n => ((entryAt l.angles n).map AngleTable.inUse).getD 0

/-- The station is a user of an entry (R52 to R54, R56). -/
def Bench.uses (e : Entry) (b : Bench) : Bool :=
  match e with
  | .variant k => b.st.sc.variantUse && decide (b.st.sc.variantSlot = some k)
  | .recipe r => chainHolds b.st.sc.chain r
  | .limits n =>
    match b.st.point with
    | some p => decide (p.limitSet = n)
    | none => false
  | .angle n => b.st.point.isSome && decide (b.setup.angleTable = n)

/-- A user meets a forced write (R32, R56): it enters STOPPING CONTROLLED, TABLE_REPLACED, and its use of
its variant ends; one already in STOPPING is only released. -/
def Bench.forceOut (b : Bench) : Bench :=
  (b.enterStopping .controlled .tableReplaced).releaseVariant

/-- Station `i` at a forced write of an entry, with the count of the stations stopped so far. -/
def forceStation (e : Entry) (i : StNo) (p : State × Nat) : State × Nat :=
  if (p.1.bench i).uses e then
    (p.1.onStation i Bench.forceOut,
      if (p.1.stations.get i).sc.state.driving then p.2 + 1 else p.2)
  else p

/-- Every user of an entry is stopped or released, in station order 0 to 3 (R32). -/
def forceUsers (e : Entry) (s : State) : State × Nat :=
  forceStation e 3 (forceStation e 2 (forceStation e 1 (forceStation e 0 (s, 0))))

/-- A table write that has passed its own checks (R31): done, refused IN_USE, or forced. -/
def State.write (e : Entry) (force : Bool) (c : ReplyCode) (w : Library → Library) (s : State) : Answer :=
  if s.lib.inUse e = 0 then answer c 0 { s with lib := w s.lib }
  else if force then
    answer c (forceUsers e s).2 { (forceUsers e s).1 with lib := w (forceUsers e s).1.lib }
  else refuse .inUse s

/-- A station number of a body: none outside 0-3. -/
def stationOf (n : Nat) : Option StNo :=
  match n with
  | 0 => some 0
  | 1 => some 1
  | 2 => some 2
  | 3 => some 3
  | _ => none

/-- A request that names its station in its first byte; a number outside 0-3 is refused BAD_FIELD. -/
def onNamed (r : Request) (s : State) (f : StNo → Answer) : Answer :=
  match stationOf (byteAt r.body 0) with
  | some i => f i
  | none => refuse .badField s

end Sys2Proof.Machine
end

