-- ==== Sys2Proof/Machine/Tables.lean ====
section
/-! DEFINITION. The table store TS (Chapter 3): loads, deletes, reads, station setups, cell settings. -/

namespace Sys2Proof.Machine

/-! ### LOAD_VARIANT (R37, R38) -/

/-- The slot that holds a variant code. -/
def Library.slotOf (l : Library) (code : Nat) : Option Nat :=
  l.variants.findIdx? fun o => match o with
    | some v => decide (v.code = code)
    | none => false

/-- The placement of a load (R38): its target slot, or the code of its refusal. -/
def Library.placement (l : Library) (code choice : Nat) : Except ReplyCode Nat :=
  match l.slotOf code with
  | some k => if choice = 255 ∨ k = choice then .ok k else .error .duplicate
  | none =>
    if choice = 255 then
      match firstAbsent with
      | some k => .ok k
      | none => .error .tableFull
    else .ok choice
where
  /-- The lowest-numbered absent slot. -/
  firstAbsent : Option Nat := l.variants.findIdx? Option.isNone

/-- The entry that a LOAD_VARIANT body carries (11.3). -/
def variantOf (body : List Byte) : Variant :=
  { code := u16At body 0, recipe := byteAt body 3, volume := u32At body 4, leakLimit := u16At body 8,
    inUse := 0 }

def opLoadVariant (r : Request) (s : State) : Answer :=
  if u16At r.body 0 = 0 then refuse .badField s
  else if ¬ (byteAt r.body 2 ≤ 63 ∨ byteAt r.body 2 = 255) then refuse .badField s
  else if ¬ byteAt r.body 3 ≤ 47 then refuse .badField s
  else if within 100 200000 (u32At r.body 4) = false then refuse .badField s
  else
    match s.lib.placement (u16At r.body 0) (byteAt r.body 2) with
    | .error c => refuse c s
    | .ok k =>
      s.write (.variant k) r.force .done fun l =>
        { l with variants := l.variants.set k (some (variantOf r.body)) }

/-! ### LOAD_RECIPE (R40, R41) -/

/-- The last segment is an END or a CHAIN (R40 check 5). -/
def endsWell (gs : List Segment) : Bool :=
  match gs.getLast? with
  | some g =>
    match g.body with
    | .finish => true
    | .chain _ => true
    | _ => false
  | none => false

def opLoadRecipe (r : Request) (s : State) : Answer :=
  if within 1 32 (byteAt r.body 2) = false then refuse .badLength s
  else if ¬ byteAt r.body 0 ≤ 47 then refuse .badField s
  else
    match markOf (byteAt r.body 1), segmentsAt r.body (byteAt r.body 2) 3 with
    | some stop, some gs =>
      if endsWell gs then
        s.write (.recipe (byteAt r.body 0)) r.force .done fun l =>
          { l with
            recipes := l.recipes.set (byteAt r.body 0)
              (some { stopOnFail := stop, segments := gs, inUse := 0 }) }
      else refuse .badField s
    | _, _ => refuse .badField s

/-! ### LOAD_LIMITS (R42) -/

/-- The order line at an offset of a body (11.3). -/
def orderLineAt (body : List Byte) (o : Nat) : OrderLine :=
  { order := u16At body o
    limits := ⟨u16At body (o + 2), u16At body (o + 4), u16At body (o + 6), u16At body (o + 8)⟩ }

/-- The order lines of a body in order. -/
def orderLinesAt (body : List Byte) : List OrderLine :=
  (List.range (byteAt body 13)).map fun j => orderLineAt body (14 + 10 * j)

/-- Two order lines share their h (R42 check 5). -/
def sharesOrder : List OrderLine → Bool
  | [] => false
  | o :: os => (os.any fun p => decide (p.order = o.order)) || sharesOrder os

/-- The edges lie in 0-1,000,000 and ascend strictly (R42 check 3). -/
def edgesGood (e1 e2 e3 : Nat) : Bool :=
  decide (e1 < e2) && decide (e2 < e3) && decide (e3 ≤ 1000000)

def opLoadLimits (r : Request) (s : State) : Answer :=
  if within 1 8 (byteAt r.body 13) = false then refuse .badLength s
  else if ¬ byteAt r.body 0 ≤ 31 then refuse .badField s
  else if edgesGood (u32At r.body 1) (u32At r.body 5) (u32At r.body 9) = false then refuse .badField s
  else if (orderLinesAt r.body).all (fun o => within 1 511 o.order) = false then refuse .badField s
  else if sharesOrder (orderLinesAt r.body) then refuse .duplicate s
  else
    s.write (.limits (byteAt r.body 0)) r.force .done fun l =>
      { l with
        limits := l.limits.set (byteAt r.body 0)
          (some { edge1 := u32At r.body 1, edge2 := u32At r.body 5, edge3 := u32At r.body 9,
                  lines := orderLinesAt r.body, inUse := 0 }) }

/-! ### LOAD_ANGLE (R43 to R45) -/

/-- The values of a body as received. -/
def angleValuesAt (body : List Byte) : List Int :=
  (List.range (u16At body 5)).map fun j => s16At body (7 + 2 * j)

/-- A value as held: -32768 is clamped to -32767 (R43). -/
def heldValue (x : Int) : Int := max (-32767) x

/-- The reply code of a load: CLAMPED when it clamped a value (R43). -/
def angleCode (xs : List Int) : ReplyCode := if xs.any fun x => decide (x < -32767) then .clamped else .done

/-- An angle table holding values of E: PRESENT when it holds them all (R44, R45). -/
def angleTableOf (e : Nat) (xs : List Int) (inUse : Nat) : AngleTable :=
  { state := if xs.length = e then .present else .loading, e := e, values := xs, inUse := inUse }

/-- A first part (R44). -/
def loadFirst (r : Request) (s : State) : Answer :=
  s.write (.angle (byteAt r.body 0)) r.force (angleCode (angleValuesAt r.body)) fun l =>
    { l with
      angles := l.angles.set (byteAt r.body 0)
        (some (angleTableOf (u16At r.body 1) ((angleValuesAt r.body).map heldValue) 0)) }

/-- A later part (R43 check 5, R45). -/
def loadNext (r : Request) (s : State) : Answer :=
  match entryAt s.lib.angles (byteAt r.body 0) with
  | some t =>
    if t.state = .loading ∧ t.e = u16At r.body 1 ∧ t.values.length = u16At r.body 3 then
      answer (angleCode (angleValuesAt r.body)) 0
        { s with lib := { s.lib with
            angles := s.lib.angles.set (byteAt r.body 0)
              (some (angleTableOf t.e (t.values ++ (angleValuesAt r.body).map heldValue) t.inUse)) } }
    else refuse .badField s
  | none => refuse .badField s

def opLoadAngle (r : Request) (s : State) : Answer :=
  if within 1 256 (u16At r.body 5) = false then refuse .badLength s
  else if ¬ byteAt r.body 0 ≤ 3 then refuse .badField s
  else if ¬ (u16At r.body 1 % 4 = 0 ∧ within 16 1024 (u16At r.body 1) = true) then refuse .badField s
  else if u16At r.body 1 < u16At r.body 3 + u16At r.body 5 then refuse .badField s
  else if u16At r.body 3 = 0 then loadFirst r s
  else loadNext r s

/-! ### DELETE_ENTRY and READ_ENTRY (R46, R47) -/

/-- The entry that a selector and a key name (3.6): refused BAD_FIELD or NO_ENTRY. -/
def Library.named (l : Library) (sel key : Nat) : Except ReplyCode Entry :=
  match sel with
  | 0 =>
    if key = 0 then .error .badField
    else match l.slotOf key with
      | some k => .ok (.variant k)
      | none => .error .noEntry
  | 1 => pick (decide (key ≤ 63)) (entryAt l.variants key).isSome (.variant key)
  | 2 => pick (decide (key ≤ 47)) (entryAt l.recipes key).isSome (.recipe key)
  | 3 => pick (decide (key ≤ 31)) (entryAt l.limits key).isSome (.limits key)
  | 4 => pick (decide (key ≤ 3)) (entryAt l.angles key).isSome (.angle key)
  | _ => .error .badField
where
  /-- A key in range of an entry that is there. -/
  pick (inRange present : Bool) (e : Entry) : Except ReplyCode Entry :=
    if inRange then (if present then .ok e else .error .noEntry) else .error .badField

/-- The tables with an entry made absent (R46). -/
def Library.delete (l : Library) : Entry → Library
  | .variant k => { l with variants := l.variants.set k none }
  | .recipe r => { l with recipes := l.recipes.set r none }
  | .limits n => { l with limits := l.limits.set n none }
  | .angle n => { l with angles := l.angles.set n none }

def opDeleteEntry (r : Request) (s : State) : Answer :=
  match s.lib.named (byteAt r.body 0) (u16At r.body 1) with
  | .error c => refuse c s
  | .ok e => s.write e r.force .done fun l => l.delete e

/-- The contents of a variant entry (11.3): its slot, then the load body with the slot as its choice. -/
def Variant.bytes (k : Nat) (v : Variant) : List Byte :=
  putU8 k ++ putU16 v.code ++ putU8 k ++ putU8 v.recipe ++ putU32 v.volume ++ putU16 v.leakLimit

/-- The contents of a recipe entry: its load body (11.3). -/
def Recipe.bytes (k : Nat) (e : Recipe) : List Byte :=
  putU8 k ++ putMark e.stopOnFail ++ putU8 e.segments.length ++ segmentsBytes e.segments

def OrderLine.bytes (o : OrderLine) : List Byte :=
  putU16 o.order ++ putU16 o.limits.b0 ++ putU16 o.limits.b1 ++ putU16 o.limits.b2
    ++ putU16 o.limits.b3

/-- The contents of a limit set: its load body (11.3). -/
def LimitSet.bytes (k : Nat) (e : LimitSet) : List Byte :=
  putU8 k ++ putU32 e.edge1 ++ putU32 e.edge2 ++ putU32 e.edge3 ++ putU8 e.lines.length
    ++ (e.lines.map OrderLine.bytes).flatten

/-- The values of a part of an angle table (R47). -/
def AngleTable.part (e : AngleTable) (p : Nat) : List Int := (e.values.drop (256 * p)).take 256

/-- The contents of an angle table, one part of its values (11.3). -/
def AngleTable.bytes (k p : Nat) (e : AngleTable) : List Byte :=
  putU8 k ++ putU8 e.state.code ++ putU16 e.e ++ putU16 e.values.length ++ putU8 p
    ++ putU16 (e.part p).length ++ ((e.part p).map putS16).flatten

/-- The contents of an entry, for part `p` of an angle table. -/
def Library.contents (l : Library) (p : Nat) : Entry → List Byte
  | .variant k => ((entryAt l.variants k).map (Variant.bytes k)).getD []
  | .recipe k => ((entryAt l.recipes k).map (Recipe.bytes k)).getD []
  | .limits k => ((entryAt l.limits k).map (LimitSet.bytes k)).getD []
  | .angle k => ((entryAt l.angles k).map (AngleTable.bytes k p)).getD []

/-- The part number is one the selector takes (R47 check 3). -/
def partGood (sel p : Nat) : Bool := if sel = 4 then decide (p ≤ 3) else decide (p = 0)

/-- The part begins beyond the values held (R47 check 5). -/
def Library.beyond (l : Library) (p : Nat) : Entry → Bool
  | .angle k => decide (((entryAt l.angles k).map fun t => t.values.length).getD 0 ≤ 256 * p)
  | _ => false

/-- The payload of a READ_ENTRY (11.3). -/
def entryPayload (r : Request) (e : Entry) (l : Library) : List Byte :=
  putU8 (byteAt r.body 0) ++ putU16 (u16At r.body 1) ++ putU8 (l.inUse e)
    ++ l.contents (byteAt r.body 3) e

def opReadEntry (r : Request) (s : State) : Answer :=
  match s.lib.named (byteAt r.body 0) (u16At r.body 1) with
  | .error .noEntry =>
    if partGood (byteAt r.body 0) (byteAt r.body 3) then refuse .noEntry s else refuse .badField s
  | .error c => refuse c s
  | .ok e =>
    if partGood (byteAt r.body 0) (byteAt r.body 3) = false then refuse .badField s
    else if s.lib.beyond (byteAt r.body 3) e then refuse .badField s
    else report .entry (entryPayload r e s.lib) s

/-! ### Field-select writes (R29, R30) -/

/-- A numeric field brought into its range (R30, R179). -/
def clampField (lo hi n : Nat) : Nat := max lo (min hi n)

/-- A numeric field of a field-select write: mask bit, range, offset in the body. -/
structure Numeric where
  bit : Nat
  lo : Nat
  hi : Nat
  off : Nat

/-- The field is marked and its value lies outside its range. -/
def Numeric.clamps (mask : Nat) (body : List Byte) (f : Numeric) : Bool :=
  bitSet mask f.bit && !(within f.lo f.hi (u32At body f.off))

/-- The field's new value: clamped where marked, as it stands where not (R30). -/
def Numeric.write (mask : Nat) (body : List Byte) (f : Numeric) (old : Nat) : Nat :=
  if bitSet mask f.bit then clampField f.lo f.hi (u32At body f.off) else old

/-- The reply code of a field-select write (R30). -/
def writeCode (mask : Nat) (body : List Byte) (fs : List Numeric) : ReplyCode :=
  if fs.any (Numeric.clamps mask body) then .clamped else .done

/-- A marked choice field holds a code outside its set, 0 to `top` (R29 check 3). -/
def badChoice (mask : Nat) (body : List Byte) (bit off top : Nat) : Bool :=
  bitSet mask bit && decide (top < byteAt body off)

/-! ### SET_STATION and READ_STATION (R48, R49) -/

def fMaxSpeed (absMax : Nat) : Numeric := ⟨5, 0, min 1000000 absMax, 10⟩
def fTripSpeed : Numeric := ⟨6, 0, 1000000, 14⟩
def fTripTorque : Numeric := ⟨7, 0, 2000000, 18⟩
def fMaxTorque : Numeric := ⟨8, 0, 2000000, 22⟩
def fFeedback : Numeric := ⟨9, 2, 50, 26⟩
def fStopRate : Numeric := ⟨10, 1, 100000, 30⟩
def fStopTimeout : Numeric := ⟨11, 1, 10000000, 34⟩
def fZeroBand : Numeric := ⟨12, 0, 100000, 38⟩
def fWidth : Numeric := ⟨14, 1, 250, 43⟩
def fRecovery : Numeric := ⟨15, 0, 250, 47⟩

/-- The numeric fields of a setup (3.7). -/
def setupNumerics (absMax : Nat) : List Numeric :=
  [fMaxSpeed absMax, fTripSpeed, fTripTorque, fMaxTorque, fFeedback, fStopRate, fStopTimeout, fZeroBand,
    fWidth, fRecovery]

/-- Some marked choice field of a setup is outside its set (R29 check 3). -/
def setupChoiceBad (mask : Nat) (body : List Byte) : Bool :=
  badChoice mask body 0 5 30 || badChoice mask body 1 6 30 || badChoice mask body 2 7 30
    || badChoice mask body 3 8 1 || badChoice mask body 4 9 3 || badChoice mask body 13 42 1

def channelOf (n : Nat) : Channel := if n = 0 then .a else .b
def rejectModeOf (n : Nat) : RejectMode := if n = 0 then .pulse else .catch

/-- A choice field's new value: as carried where marked. -/
def choose {α : Type} (mask bit : Nat) (new old : α) : α := if bitSet mask bit then new else old

/-- The setup after a field-select write (R30, R48). -/
def Setup.write (absMax mask : Nat) (body : List Byte) (su : Setup) : Setup :=
  { driveHead := choose mask 0 (byteAt body 5) su.driveHead
    processHead := choose mask 1 (byteAt body 6) su.processHead
    vibrationHead := choose mask 2 (byteAt body 7) su.vibrationHead
    channel := choose mask 3 (channelOf (byteAt body 8)) su.channel
    angleTable := choose mask 4 (byteAt body 9) su.angleTable
    maxSpeed := (fMaxSpeed absMax).write mask body su.maxSpeed
    tripSpeed := fTripSpeed.write mask body su.tripSpeed
    tripTorque := fTripTorque.write mask body su.tripTorque
    maxTorque := fMaxTorque.write mask body su.maxTorque
    feedbackTimeout := fFeedback.write mask body su.feedbackTimeout
    stopRate := fStopRate.write mask body su.stopRate
    stopTimeout := fStopTimeout.write mask body su.stopTimeout
    zeroBand := fZeroBand.write mask body su.zeroBand
    rejectMode := choose mask 13 (rejectModeOf (byteAt body 42)) su.rejectMode
    width := fWidth.write mask body su.width
    recovery := fRecovery.write mask body su.recovery }

/-- What a setup write does to the station itself (R103, R174): a written vibration head makes the last
angle none, a changed reject mode resets the REJECT output. -/
def Station.resetup (mask : Nat) (old new : Setup) (t : Station) : Station :=
  { t with
    aw := if bitSet mask 2 then { t.aw with lastAngle := none } else t.aw
    ou := if old.rejectMode = new.rejectMode then t.ou else t.ou.modeChange }

/-- The setup of station `i` written (R30, R48). -/
def State.writeSetup (i : StNo) (mask : Nat) (body : List Byte) (s : State) : State :=
  let old := s.setups.get i
  let new := old.write s.cell.absMaxSpeed mask body
  { s with
    setups := s.setups.set i new
    stations := s.stations.set i ((s.stations.get i).resetup mask old new) }

def opSetStation (r : Request) (s : State) : Answer :=
  onNamed r s fun i =>
    let mask := u32At r.body 1
    if 65536 ≤ mask then refuse .badField s
    else if setupChoiceBad mask r.body then refuse .badField s
    else if mask % 8192 ≠ 0 ∧ (s.stations.get i).sc.state ≠ .idle then refuse .stationBusy s
    else
      answer (writeCode mask r.body (setupNumerics s.cell.absMaxSpeed)) 0
        (s.writeSetup i mask r.body)

/-- The 16 fields of a setup as in SET_STATION (11.3). -/
def Setup.bytes (su : Setup) : List Byte :=
  putU8 su.driveHead ++ putU8 su.processHead ++ putU8 su.vibrationHead ++ putU8 su.channel.code
    ++ putU8 su.angleTable ++ putU32 su.maxSpeed ++ putU32 su.tripSpeed ++ putU32 su.tripTorque
    ++ putU32 su.maxTorque ++ putU32 su.feedbackTimeout ++ putU32 su.stopRate
    ++ putU32 su.stopTimeout ++ putU32 su.zeroBand ++ putU8 su.rejectMode.code ++ putU32 su.width
    ++ putU32 su.recovery

def opReadStation (r : Request) (s : State) : Answer :=
  onNamed r s fun i => report .station (putU8 i.val ++ (s.setups.get i).bytes) s

/-! ### SET_CELL and READ_CELL (R50, R51) -/

def fAmbient : Numeric := ⟨0, 50000, 110000, 1⟩
def fThreshold : Numeric := ⟨2, 0, 1000000, 6⟩
def fSupplyWait : Numeric := ⟨3, 1, 600000, 10⟩
def fAbsMax : Numeric := ⟨4, 0, 1000000, 14⟩

/-- The numeric fields of the cell settings (3.8). -/
def cellNumerics : List Numeric := [fAmbient, fThreshold, fSupplyWait, fAbsMax]

/-- The cell settings after a field-select write (R30, R50). -/
def CellSettings.write (mask : Nat) (body : List Byte) (c : CellSettings) : CellSettings :=
  { ambient := fAmbient.write mask body c.ambient
    supplyHead := choose mask 1 (byteAt body 5) c.supplyHead
    supplyThreshold := fThreshold.write mask body c.supplyThreshold
    supplyWait := fSupplyWait.write mask body c.supplyWait
    absMaxSpeed := fAbsMax.write mask body c.absMaxSpeed }

/-- Every station is IDLE. -/
def State.allIdle (s : State) : Bool := s.stations.toList.all fun t => decide (t.sc.state = .idle)

def opSetCell (r : Request) (s : State) : Answer :=
  if 32 ≤ byteAt r.body 0 then refuse .badField s
  else if badChoice (byteAt r.body 0) r.body 1 5 30 then refuse .badField s
  else if bitSet (byteAt r.body 0) 4 = true ∧ s.allIdle = false then refuse .stationBusy s
  else
    answer (writeCode (byteAt r.body 0) r.body cellNumerics) 0
      { s with cell := s.cell.write (byteAt r.body 0) r.body }

/-- The five cell settings (11.3). -/
def CellSettings.bytes (c : CellSettings) : List Byte :=
  putU32 c.ambient ++ putU8 c.supplyHead ++ putU32 c.supplyThreshold ++ putU32 c.supplyWait
    ++ putU32 c.absMaxSpeed

def opReadCell (_r : Request) (s : State) : Answer := report .cell s.cell.bytes s

end Sys2Proof.Machine
end

