-- ==== Sys2Proof/Machine/Management.lean ====
section
/-! DEFINITION. The requests of MU, SI, RP, SC, RS and OU: STATUS, READ_COUNTERS, admission and run
steering, reports, output clears and CELL_RESET. -/

namespace Sys2Proof.Machine

/-! ### BAD_KIND, STATUS, READ_COUNTERS (R24, R33, R19) -/

def opBadKind (_r : Request) (s : State) : Answer := refuse .badKind s

/-- The payload of STATUS (R33). -/
def statusPayload (s : State) : List Byte :=
  putU8 s.rp.addr.toNat ++ putU32 s.tb.cycle.toNat ++ putU8 s.queue.length
    ++ putU8 s.store.freeCount ++ putU8 s.store.openCount

def opStatus (_r : Request) (s : State) : Answer := report .status (statusPayload s) s

/-- A head entry in the COUNTERS payload (11.3). -/
def HeadEntry.bytes (h : HeadEntry) : List Byte :=
  putU8 h.state.code ++ [h.expected] ++ putU16 h.gap ++ putU16 h.outOfOrder ++ putU16 h.resync
    ++ putU32 h.lastStamp.toNat

/-- The payload of READ_COUNTERS (R19): cycle number, the ring counters in the order of 1.9, the heads,
the reject-lost counts. -/
def countersPayload (s : State) : List Byte :=
  putU32 s.tb.cycle.toNat
    ++ putU16 s.rp.checkErrors ++ putU16 s.rp.misdirected ++ putU16 s.rp.returned
    ++ putU16 s.rp.forwardDrops ++ putU16 s.rp.overruns ++ putU16 s.formatErrors
    ++ putU16 s.tb.slips ++ putU16 s.tb.flywheels
    ++ (s.heads.map HeadEntry.bytes).flatten
    ++ (s.stations.toList.map fun t => putU16 t.ou.lost).flatten

/-- A head entry with its three counters zeroed. -/
def HeadEntry.clearCounters (h : HeadEntry) : HeadEntry := { h with gap := 0, outOfOrder := 0, resync := 0 }

/-- A station with its reject-lost count zeroed. -/
def Station.clearLost (t : Station) : Station := { t with ou := { t.ou with lost := 0 } }

/-- Every counter of the payload is zeroed (R19). -/
def State.clearCounters (s : State) : State :=
  { s with
    rp := { s.rp with checkErrors := 0, misdirected := 0, returned := 0, forwardDrops := 0, overruns := 0 }
    tb := { s.tb with slips := 0, flywheels := 0 }
    formatErrors := 0
    heads := s.heads.map HeadEntry.clearCounters
    stations := ⟨s.stations.q0.clearLost, s.stations.q1.clearLost, s.stations.q2.clearLost,
      s.stations.q3.clearLost⟩ }

def opReadCounters (r : Request) (s : State) : Answer :=
  match markOf (byteAt r.body 0) with
  | some clear => report .counters (countersPayload s) (if clear then s.clearCounters else s)
  | none => refuse .badField s

/-! ### ADMIT (R59, R60) -/

/-- The three head nodes of a setup. -/
def Setup.heads (su : Setup) : List Nat := [su.driveHead, su.processHead, su.vibrationHead]

/-- The context at the commit, before segment 0 is reached (R60 steps 2 to 4). -/
def admitContext (id slot top : Nat) (stop : Bool) : Context :=
  { Context.idle with
    state := .running, recordId := id, variantSlot := some slot, stopOnFail := stop,
    chain := [⟨top, none⟩], variantUse := true }

/-- The commit of an admission on the station's bench, before segment 0 is reached (R60 steps 1 to 5,
R83). -/
def Bench.enrol (slot : Nat) (v : Variant) (mode : RunMode) (serial : List Byte) (b : Bench) : Bench :=
  let id := b.store.nextId
  let b := b.setStore (b.store.openRecord b.me v.code v.recipe serial b.now)
  let b := b.setSc (admitContext id slot v.recipe (b.lib.stopOnFail v.recipe))
  let b := b.setLib ((b.lib.useRecipe v.recipe).useVariant slot)
  let b := b.setMode mode
  let b := (b.setDc { Drive.idle with params := some (restParams b.setup) }).follow
  b.setOu { b.st.ou with pass := false }

/-- The commit of an admission (R60): segment 0 is reached, and a RUNAWAY that this makes due is part of
it. -/
def Bench.commit (slot : Nat) (v : Variant) (mode : RunMode) (serial : List Byte) (b : Bench) : Bench :=
  (advance 257 0 (b.enrol slot v mode serial)).settle

/-- Checks 4 to 8 of R59: the slot and the entry of the variant, or the refusal. -/
def State.admission (i : StNo) (code : Nat) (s : State) : Except ReplyCode (Nat × Variant) :=
  if (s.setups.get i).heads.any (fun n => decide (n = 0)) then .error .notConfigured
  else
    match s.lib.slotOf code with
    | none => .error .noEntry
    | some k =>
      match entryAt s.lib.variants k with
      | none => .error .noEntry
      | some v =>
        if (entryAt s.lib.recipes v.recipe).isNone then .error .noEntry
        else if (s.setups.get i).heads.all (headSynced s.heads) = false then .error .headUnsynced
        else if (firstFree s.store.slots).isNone then .error .noReportSpace
        else .ok (k, v)

def opAdmit (r : Request) (s : State) : Answer :=
  if within 1 20 (byteAt r.body 4) = false then refuse .badLength s
  else
    onNamed r s fun i =>
      match runModeOf (byteAt r.body 1) with
      | none => refuse .badField s
      | some mode =>
        if (s.stations.get i).sc.state ≠ .idle then refuse .stationBusy s
        else
          match s.admission i (u16At r.body 2) with
          | .error c => refuse c s
          | .ok (k, v) =>
            report .admitted (putU16 s.store.nextId)
              (s.onStation i (Bench.commit k v mode (r.body.drop 5)))

/-! ### Run steering (R70, R72, R78) -/

def opSetRunMode (r : Request) (s : State) : Answer :=
  onNamed r s fun i =>
    match runModeOf (byteAt r.body 1) with
    | none => refuse .badField s
    | some m =>
      if (s.stations.get i).sc.state = .idle then refuse .wrongState s
      else done (s.onStation i fun b => b.setMode m)

/-- A HELD station is taken up (R72): after PAUSE the segment begins without being reached again; else pause
release is set and the index is reached. -/
def Bench.takeOn (b : Bench) : Bench :=
  if b.st.sc.holdReason = some .pause then
    match b.lib.segment b.topRecipe b.st.sc.index with
    | some g => ((b.beginSegment g b.st.sc.index).next g).run
    | none => b.faultTest .noRecipe
  else advance 257 b.st.sc.index (b.setSc { b.st.sc with pauseRelease := true })

/-- RESUME of a HELD station (R72); a RUNAWAY that this makes due is part of it. -/
def Bench.resume (b : Bench) : Bench := b.takeOn.settle

def opResume (r : Request) (s : State) : Answer :=
  onNamed r s fun i =>
    if (s.stations.get i).sc.state = .held then done (s.onStation i Bench.resume)
    else refuse .wrongState s

/-- ABORT of a station that is not IDLE (R78): a controlled stop, or its escalation to a coast. -/
def Bench.abort (b : Bench) : Bench :=
  if b.st.sc.state = .stopping then b.coast else b.enterStopping .controlled .operator

def opAbort (r : Request) (s : State) : Answer :=
  onNamed r s fun i =>
    if (s.stations.get i).sc.state = .idle then refuse .wrongState s
    else done (s.onStation i Bench.abort)

/-! ### Reports (R164, R165) -/

/-- The record of an id: refused NO_REPORT or, while OPEN, WRONG_STATE. -/
def Store.closedRecord (t : Store) (id : Nat) : Except ReplyCode Record :=
  match findRecord t.slots id with
  | none => .error .noReport
  | some rec => if rec.closed then .ok rec else .error .wrongState

/-- The payload of a READ_REPORT (11.3). -/
def chunkPayload (id n : Nat) (bytes : List Byte) : List Byte :=
  putU16 id ++ putU8 n ++ putU16 bytes.length ++ chunkOf bytes n

def opReadReport (r : Request) (s : State) : Answer :=
  match s.store.closedRecord (u16At r.body 0) with
  | .error c => refuse c s
  | .ok rec =>
    if rec.bytes.length ≤ Config.chunkSize * byteAt r.body 2 then refuse .badField s
    else
      report (chunkTag rec.bytes.length (byteAt r.body 2))
        (chunkPayload (u16At r.body 0) (byteAt r.body 2) rec.bytes) s

def opReleaseReport (r : Request) (s : State) : Answer :=
  match s.store.closedRecord (u16At r.body 0) with
  | .error c => refuse c s
  | .ok _ => done { s with store := s.store.release (u16At r.body 0) }

/-! ### Output clears (R173, R175) -/

def opClearReject (r : Request) (s : State) : Answer :=
  onNamed r s fun i => done (s.onStation i fun b => b.setOu (b.st.ou.clearReject b.setup))

/-- A station is in STOPPING with its safety mark set (R175). -/
def State.safetyStop (s : State) : Bool :=
  s.stations.toList.any fun t => decide (t.sc.state = .stopping) && t.sc.safety

def opClearLineStop (_r : Request) (s : State) : Answer :=
  if s.safetyStop then refuse .wrongState s else done { s with lineStop := false }

/-! ### CELL_RESET (R20, R34, R82, R133, R151, R176) -/

/-- A station that is not IDLE is sent to IDLE and its record closes (R82). -/
def Bench.resetTest (b : Bench) : Bench :=
  if b.st.sc.state = .idle then b
  else
    let b := (b.setDc b.st.dc.disable).abandonSegment.abortLeak.clearChain.releaseVariant
    (b.setSc { b.st.sc with stopReason := some .cellReset }).closeRecord true

/-- What CELL_RESET sets for every station after the closes (R82, R102, R103, R176). -/
def Station.cellReset (t : Station) : Station :=
  { t with
    mode := .hold
    aw := { t.aw with state := .inactive, lastAngle := none }
    ou := t.ou.cellReset }

/-- Every station's test ended, in station order 0 to 3. -/
def State.endTests (s : State) : State :=
  (((s.onStation 0 Bench.resetTest).onStation 1 Bench.resetTest).onStation 2 Bench.resetTest).onStation 3
    Bench.resetTest

/-- All the effects of CELL_RESET. -/
def State.cellReset (s : State) : State :=
  { s.endTests with
    stations := ⟨s.endTests.stations.q0.cellReset, s.endTests.stations.q1.cellReset,
      s.endTests.stations.q2.cellReset, s.endTests.stations.q3.cellReset⟩
    heads := s.endTests.heads.map HeadEntry.cellReset
    supplyOk := false
    lineStop := false }

def opCellReset (_r : Request) (s : State) : Answer := done s.cellReset

end Sys2Proof.Machine
end

