-- ==== Sys2Proof/WellFormed.lean ====
section
/-! DEFINITION. Which commands are well formed: the one operand whose type is wider than its range is
the node of LOSS_OF_SYNC, which has a head entry only for nodes 1-30 (1.8). -/

namespace Sys2Proof

/-- The node has an entry in the head table (1.8). -/
def isHeadNode (n : Nat) : Bool := decide (1 ≤ n) && decide (n ≤ Config.nodes)

/-- A command whose operands lie in their ranges. -/
def Instr.wf : Instr → Bool
  | .lossOfSync n => isHeadNode n
  | _ => true

end Sys2Proof
end

