-- ==== Sys2Proof/Machine/RingCommands.lean ====
section
/-! DEFINITION. The commands of the ring side: power-on reset, frames, the flywheel, loss of sync, the end
of a transmission. -/

namespace Sys2Proof.Machine

/-- POWER_ON_RESET: every block takes its power-on values and RP reads the straps (R10). -/
def execPowerOnReset (straps : BitVec 5) (s : State) : Host.Outcome State Fault Refusal :=
  .next { State.reset with rp := RingPort.initial (addressOf straps), pending := s.pending }

/-- FRAME_RECEIVED: a frame has been received whole from the upstream side (R2). -/
def execFrameReceived (f : Frame) (s : State) : Host.Outcome State Fault Refusal :=
  .next (s.receive f)

/-- FLYWHEEL_EXPIRY: TB makes a ring cycle event; before the first CYCLE the timer is stopped and nothing
expires (R12). -/
def execFlywheelExpiry (s : State) : Host.Outcome State Fault Refusal :=
  .next (if s.tb.running then State.ringCycle { s.settle with tb := s.settle.tb.expire } else s)

/-- LOSS_OF_SYNC: a head's out-of-order run has reached 3 (R15). -/
def execLossOfSync (node : Nat) (s : State) : Host.Outcome State Fault Refusal :=
  if isHeadNode node then
    match headOf s.heads node with
    | some h => .next (if h.lost then s.loseHead node else s)
    | none => .next s
  else .fault (.noSuchHead node)

/-- TRANSMISSION_END: the frame in transmission has been sent to its end (R7, R8). -/
def execTransmissionEnd (s : State) : Host.Outcome State Fault Refusal := .next s.endTransmission

end Sys2Proof.Machine
end

