-- ==== Sys2Proof/Machine/StationEvents.lean ====
section
/-! DEFINITION. The commands of a station's steps: each performs the step when it has fallen due at its
station, does the work waiting behind it, and lets a frame that has become ready go; a step that is not due
has no effect (log entry 1). -/

namespace Sys2Proof.Machine

/-- The due step at the head of a station's work, with the work behind it. -/
def Station.dueStep (t : Station) : Option (StEvent × List Todo) :=
  match t.todo with
  | .due e :: rest => some (e, rest)
  | _ => none

/-- The step of a kind is done when it is the one due at station `i`. -/
def State.fireDue (i : StNo) (kind : StEvent → Bool) (s : State) : State :=
  match (s.stations.get i).dueStep with
  | some (e, rest) => if kind e then s.fireAt i e rest else s
  | none => s

/-- The due step is a WINDOW_CLOSE, whatever its closing set. -/
def StEvent.isWindowClose : StEvent → Bool
  | .windowClose _ _ => true
  | _ => false

/-- FEEDBACK_LOST (R100). -/
def execFeedbackLost (i : StNo) (s : State) : Host.Outcome State Fault Refusal :=
  .next (s.fireDue i (fun e => decide (e = .feedbackLost)))

/-- SPEED_DEVIATION (R91, R92). -/
def execSpeedDeviation (i : StNo) (s : State) : Host.Outcome State Fault Refusal :=
  .next (s.fireDue i (fun e => decide (e = .speedDeviation)))

/-- TORQUE_LIMIT (R92). -/
def execTorqueLimit (i : StNo) (s : State) : Host.Outcome State Fault Refusal :=
  .next (s.fireDue i (fun e => decide (e = .torqueLimit)))

/-- RAMP_DONE (R93). -/
def execRampDone (i : StNo) (s : State) : Host.Outcome State Fault Refusal :=
  .next (s.fireDue i (fun e => decide (e = .rampDone)))

/-- SPEED_NOT_REACHED (R93). -/
def execSpeedNotReached (i : StNo) (s : State) : Host.Outcome State Fault Refusal :=
  .next (s.fireDue i (fun e => decide (e = .speedNotReached)))

/-- DWELL_DONE (R94). -/
def execDwellDone (i : StNo) (s : State) : Host.Outcome State Fault Refusal :=
  .next (s.fireDue i (fun e => decide (e = .dwellDone)))

/-- LEAK_WAIT_TIMEOUT (R96). -/
def execLeakWaitTimeout (i : StNo) (s : State) : Host.Outcome State Fault Refusal :=
  .next (s.fireDue i (fun e => decide (e = .leakWaitTimeout)))

/-- RUNAWAY (R64). -/
def execRunaway (i : StNo) (s : State) : Host.Outcome State Fault Refusal :=
  .next (s.fireDue i (fun e => decide (e = .runaway)))

/-- STOP_COMPLETE (R79). -/
def execStopComplete (i : StNo) (s : State) : Host.Outcome State Fault Refusal :=
  .next (s.fireDue i (fun e => decide (e = .stopComplete)))

/-- STOP_TIMEOUT (R80). -/
def execStopTimeout (i : StNo) (s : State) : Host.Outcome State Fault Refusal :=
  .next (s.fireDue i (fun e => decide (e = .stopTimeout)))

/-- PULSE_END (R171). -/
def execPulseEnd (i : StNo) (s : State) : Host.Outcome State Fault Refusal :=
  .next (s.fireDue i (fun e => decide (e = .pulseEnd)))

/-- RECOVERY_END (R171). -/
def execRecoveryEnd (i : StNo) (s : State) : Host.Outcome State Fault Refusal :=
  .next (s.fireDue i (fun e => decide (e = .recoveryEnd)))

/-- WINDOW_CLOSE (R107 to R109). -/
def execWindowClose (i : StNo) (s : State) : Host.Outcome State Fault Refusal :=
  .next (s.fireDue i StEvent.isWindowClose)

/-- SLOW (R106). -/
def execSlow (i : StNo) (s : State) : Host.Outcome State Fault Refusal :=
  .next (s.fireDue i (fun e => decide (e = .slow)))

/-- LISTEN_CUT_OFF (R125). -/
def execListenCutOff (i : StNo) (s : State) : Host.Outcome State Fault Refusal :=
  .next (s.fireDue i (fun e => decide (e = .listenCutOff)))

/-- LISTEN_TIME_LIMIT (R126). -/
def execListenTimeLimit (i : StNo) (s : State) : Host.Outcome State Fault Refusal :=
  .next (s.fireDue i (fun e => decide (e = .listenTimeLimit)))

/-- FILL (R137). -/
def execFill (i : StNo) (s : State) : Host.Outcome State Fault Refusal :=
  .next (s.fireDue i (fun e => decide (e = .fill)))

/-- SUPPLY_WAIT_LIMIT (R136). -/
def execSupplyWaitLimit (i : StNo) (s : State) : Host.Outcome State Fault Refusal :=
  .next (s.fireDue i (fun e => decide (e = .supplyWaitLimit)))

/-- SETTLE (R137). -/
def execSettle (i : StNo) (s : State) : Host.Outcome State Fault Refusal :=
  .next (s.fireDue i (fun e => decide (e = .settle)))

/-- GROSS_LEAK (R137). -/
def execGrossLeak (i : StNo) (s : State) : Host.Outcome State Fault Refusal :=
  .next (s.fireDue i (fun e => decide (e = .grossLeak)))

/-- MEASURE (R138). -/
def execMeasure (i : StNo) (s : State) : Host.Outcome State Fault Refusal :=
  .next (s.fireDue i (fun e => decide (e = .measure)))

/-- START_BLOCK (R141). -/
def execStartBlock (i : StNo) (s : State) : Host.Outcome State Fault Refusal :=
  .next (s.fireDue i (fun e => decide (e = .startBlock)))

/-- END_BLOCK (R142, R144, R145). -/
def execEndBlock (i : StNo) (s : State) : Host.Outcome State Fault Refusal :=
  .next (s.fireDue i (fun e => decide (e = .endBlock)))

/-- DISTURBED (R141, R142). -/
def execDisturbed (i : StNo) (s : State) : Host.Outcome State Fault Refusal :=
  .next (s.fireDue i (fun e => decide (e = .disturbed)))

/-- VENT_DONE (R146, R148). -/
def execVentDone (i : StNo) (s : State) : Host.Outcome State Fault Refusal :=
  .next (s.fireDue i (fun e => decide (e = .ventDone)))

/-- VENT_TIMEOUT (R146, R152). -/
def execVentTimeout (i : StNo) (s : State) : Host.Outcome State Fault Refusal :=
  .next (s.fireDue i (fun e => decide (e = .ventTimeout)))

end Sys2Proof.Machine
end

