-- ==== Sys2Proof/Machine/RequestCommands.lean ====
section
/-! DEFINITION. The request commands: each is the execution by MU of the oldest WAITING entry of the request
queue, when that entry is of its kind (R23). -/

namespace Sys2Proof.Machine

/-- BAD_KIND: the oldest WAITING entry has a kind outside the catalogue (R24, R179). -/
def execBadKind (s : State) : Host.Outcome State Fault Refusal :=
  .next (s.request (fun k => !(inCatalogue k)) opBadKind)

/-- STATUS, request kind 1 (R33). -/
def execStatus (s : State) : Host.Outcome State Fault Refusal :=
  .next (s.request (fun k => decide (k = 1)) opStatus)

/-- LOAD_VARIANT, request kind 2 (R37, R38). -/
def execLoadVariant (s : State) : Host.Outcome State Fault Refusal :=
  .next (s.request (fun k => decide (k = 2)) opLoadVariant)

/-- LOAD_RECIPE, request kind 3 (R40, R41). -/
def execLoadRecipe (s : State) : Host.Outcome State Fault Refusal :=
  .next (s.request (fun k => decide (k = 3)) opLoadRecipe)

/-- LOAD_LIMITS, request kind 4 (R42). -/
def execLoadLimits (s : State) : Host.Outcome State Fault Refusal :=
  .next (s.request (fun k => decide (k = 4)) opLoadLimits)

/-- LOAD_ANGLE, request kind 5 (R43 to R45). -/
def execLoadAngle (s : State) : Host.Outcome State Fault Refusal :=
  .next (s.request (fun k => decide (k = 5)) opLoadAngle)

/-- DELETE_ENTRY, request kind 6 (R46). -/
def execDeleteEntry (s : State) : Host.Outcome State Fault Refusal :=
  .next (s.request (fun k => decide (k = 6)) opDeleteEntry)

/-- READ_ENTRY, request kind 7 (R47). -/
def execReadEntry (s : State) : Host.Outcome State Fault Refusal :=
  .next (s.request (fun k => decide (k = 7)) opReadEntry)

/-- SET_STATION, request kind 8 (R29, R30, R48). -/
def execSetStation (s : State) : Host.Outcome State Fault Refusal :=
  .next (s.request (fun k => decide (k = 8)) opSetStation)

/-- READ_STATION, request kind 9 (R49). -/
def execReadStation (s : State) : Host.Outcome State Fault Refusal :=
  .next (s.request (fun k => decide (k = 9)) opReadStation)

/-- SET_CELL, request kind 10 (R29, R30, R50). -/
def execSetCell (s : State) : Host.Outcome State Fault Refusal :=
  .next (s.request (fun k => decide (k = 10)) opSetCell)

/-- READ_CELL, request kind 11 (R51). -/
def execReadCell (s : State) : Host.Outcome State Fault Refusal :=
  .next (s.request (fun k => decide (k = 11)) opReadCell)

/-- READ_COUNTERS, request kind 12 (R19). -/
def execReadCounters (s : State) : Host.Outcome State Fault Refusal :=
  .next (s.request (fun k => decide (k = 12)) opReadCounters)

/-- ADMIT, request kind 13 (R59, R60). -/
def execAdmitAxle (s : State) : Host.Outcome State Fault Refusal :=
  .next (s.request (fun k => decide (k = 13)) opAdmit)

/-- SET_RUN_MODE, request kind 14 (R70). -/
def execSetRunMode (s : State) : Host.Outcome State Fault Refusal :=
  .next (s.request (fun k => decide (k = 14)) opSetRunMode)

/-- RESUME, request kind 15 (R72). -/
def execResume (s : State) : Host.Outcome State Fault Refusal :=
  .next (s.request (fun k => decide (k = 15)) opResume)

/-- ABORT, request kind 16 (R78). -/
def execAbort (s : State) : Host.Outcome State Fault Refusal :=
  .next (s.request (fun k => decide (k = 16)) opAbort)

/-- READ_REPORT, request kind 17 (R164). -/
def execReadReport (s : State) : Host.Outcome State Fault Refusal :=
  .next (s.request (fun k => decide (k = 17)) opReadReport)

/-- RELEASE_REPORT, request kind 18 (R165). -/
def execReleaseReport (s : State) : Host.Outcome State Fault Refusal :=
  .next (s.request (fun k => decide (k = 18)) opReleaseReport)

/-- CLEAR_REJECT, request kind 19 (R173). -/
def execClearReject (s : State) : Host.Outcome State Fault Refusal :=
  .next (s.request (fun k => decide (k = 19)) opClearReject)

/-- CLEAR_LINE_STOP, request kind 20 (R175). -/
def execClearLineStop (s : State) : Host.Outcome State Fault Refusal :=
  .next (s.request (fun k => decide (k = 20)) opClearLineStop)

/-- CELL_RESET, request kind 21 (R34, R82). -/
def execCellReset (s : State) : Host.Outcome State Fault Refusal :=
  .next (s.request (fun k => decide (k = 21)) opCellReset)

end Sys2Proof.Machine
end

