-- ==== Sys2Proof/Machine/Dispatch.lean ====
section
/-! DEFINITION. One arm for each command: one direct call of its meaning. -/

namespace Sys2Proof.Machine

def exec (i : Instr) (s : State) : Host.Outcome State Fault Refusal :=
  match i with
  | .powerOnReset straps => Sys2Proof.Machine.execPowerOnReset straps s
  | .frameReceived f => Sys2Proof.Machine.execFrameReceived f s
  | .flywheelExpiry => Sys2Proof.Machine.execFlywheelExpiry s
  | .lossOfSync node => Sys2Proof.Machine.execLossOfSync node s
  | .transmissionEnd => Sys2Proof.Machine.execTransmissionEnd s
  | .feedbackLost st => Sys2Proof.Machine.execFeedbackLost st s
  | .speedDeviation st => Sys2Proof.Machine.execSpeedDeviation st s
  | .torqueLimit st => Sys2Proof.Machine.execTorqueLimit st s
  | .rampDone st => Sys2Proof.Machine.execRampDone st s
  | .speedNotReached st => Sys2Proof.Machine.execSpeedNotReached st s
  | .dwellDone st => Sys2Proof.Machine.execDwellDone st s
  | .leakWaitTimeout st => Sys2Proof.Machine.execLeakWaitTimeout st s
  | .runaway st => Sys2Proof.Machine.execRunaway st s
  | .stopComplete st => Sys2Proof.Machine.execStopComplete st s
  | .stopTimeout st => Sys2Proof.Machine.execStopTimeout st s
  | .pulseEnd st => Sys2Proof.Machine.execPulseEnd st s
  | .recoveryEnd st => Sys2Proof.Machine.execRecoveryEnd st s
  | .windowClose st => Sys2Proof.Machine.execWindowClose st s
  | .slow st => Sys2Proof.Machine.execSlow st s
  | .listenCutOff st => Sys2Proof.Machine.execListenCutOff st s
  | .listenTimeLimit st => Sys2Proof.Machine.execListenTimeLimit st s
  | .fill st => Sys2Proof.Machine.execFill st s
  | .supplyWaitLimit st => Sys2Proof.Machine.execSupplyWaitLimit st s
  | .settle st => Sys2Proof.Machine.execSettle st s
  | .grossLeak st => Sys2Proof.Machine.execGrossLeak st s
  | .measure st => Sys2Proof.Machine.execMeasure st s
  | .startBlock st => Sys2Proof.Machine.execStartBlock st s
  | .endBlock st => Sys2Proof.Machine.execEndBlock st s
  | .disturbed st => Sys2Proof.Machine.execDisturbed st s
  | .ventDone st => Sys2Proof.Machine.execVentDone st s
  | .ventTimeout st => Sys2Proof.Machine.execVentTimeout st s
  | .badKind => Sys2Proof.Machine.execBadKind s
  | .status => Sys2Proof.Machine.execStatus s
  | .loadVariant => Sys2Proof.Machine.execLoadVariant s
  | .loadRecipe => Sys2Proof.Machine.execLoadRecipe s
  | .loadLimits => Sys2Proof.Machine.execLoadLimits s
  | .loadAngle => Sys2Proof.Machine.execLoadAngle s
  | .deleteEntry => Sys2Proof.Machine.execDeleteEntry s
  | .readEntry => Sys2Proof.Machine.execReadEntry s
  | .setStation => Sys2Proof.Machine.execSetStation s
  | .readStation => Sys2Proof.Machine.execReadStation s
  | .setCell => Sys2Proof.Machine.execSetCell s
  | .readCell => Sys2Proof.Machine.execReadCell s
  | .readCounters => Sys2Proof.Machine.execReadCounters s
  | .admitAxle => Sys2Proof.Machine.execAdmitAxle s
  | .setRunMode => Sys2Proof.Machine.execSetRunMode s
  | .resume => Sys2Proof.Machine.execResume s
  | .abort => Sys2Proof.Machine.execAbort s
  | .readReport => Sys2Proof.Machine.execReadReport s
  | .releaseReport => Sys2Proof.Machine.execReleaseReport s
  | .clearReject => Sys2Proof.Machine.execClearReject s
  | .clearLineStop => Sys2Proof.Machine.execClearLineStop s
  | .cellReset => Sys2Proof.Machine.execCellReset s

end Sys2Proof.Machine
end

