-- ==== Sys2Proof/Safety.lean ====
section
/-! DEFINITION. The terms the statements are made in: commands and the steps or requests they stand for,
what follows the end of a segment by run mode, and the invariants. -/

namespace Sys2Proof.Machine

/-! ### Commands -/

/-- Every command waiting is well formed. -/
def State.wellFormed (s : State) : Bool := s.pending.all Instr.wf

/-- The 21 request kinds of the catalogue (2.8) with their commands. -/
def requestCommands : List (Nat × Instr) :=
  [(1, .status), (2, .loadVariant), (3, .loadRecipe), (4, .loadLimits), (5, .loadAngle),
    (6, .deleteEntry), (7, .readEntry), (8, .setStation), (9, .readStation), (10, .setCell),
    (11, .readCell), (12, .readCounters), (13, .admitAxle), (14, .setRunMode), (15, .resume),
    (16, .abort), (17, .readReport), (18, .releaseReport), (19, .clearReject), (20, .clearLineStop),
    (21, .cellReset)]

/-- The command of a station's step. -/
def stationCommand (i : StNo) : StEvent → Instr
  | .feedbackLost => .feedbackLost i
  | .speedDeviation => .speedDeviation i
  | .torqueLimit => .torqueLimit i
  | .rampDone => .rampDone i
  | .speedNotReached => .speedNotReached i
  | .dwellDone => .dwellDone i
  | .leakWaitTimeout => .leakWaitTimeout i
  | .runaway => .runaway i
  | .stopComplete => .stopComplete i
  | .stopTimeout => .stopTimeout i
  | .pulseEnd => .pulseEnd i
  | .recoveryEnd => .recoveryEnd i
  | .windowClose _ _ => .windowClose i
  | .slow => .slow i
  | .listenCutOff => .listenCutOff i
  | .listenTimeLimit => .listenTimeLimit i
  | .fill => .fill i
  | .supplyWaitLimit => .supplyWaitLimit i
  | .settle => .settle i
  | .grossLeak => .grossLeak i
  | .measure => .measure i
  | .startBlock => .startBlock i
  | .endBlock => .endBlock i
  | .disturbed => .disturbed i
  | .ventDone => .ventDone i
  | .ventTimeout => .ventTimeout i

/-- `r` is the oldest WAITING entry of the request queue, of a kind, with arrival status OK. -/
def State.Asks (s : State) (kind : Nat) (r : Request) : Prop :=
  s.queue.find? Request.waiting = some r ∧ r.kind.toNat = kind ∧ r.arrival = .ok

/-- A step has fallen due at station `i`, with the given work behind it. -/
def State.Due (s : State) (i : StNo) (e : StEvent) (rest : List Todo) : Prop :=
  (s.stations.get i).todo = .due e :: rest

/-- The command does nothing but have MU answer the request `r` as `a` says. -/
def Replies (c : Instr) (s : State) (r : Request) (a : Answer) : Prop :=
  exec c s = .next (State.reply r a)

/-- The command has station `i` take on the bench `b` and go on with the work behind the step. -/
def LeavesBench (c : Instr) (s : State) (i : StNo) (rest : List Todo) (b : Bench) : Prop :=
  exec c s = .next (s.resumeWith i rest b)

/-! ### What the rules say of a station -/

/-- Slot `k` holds the record. -/
def Store.At (t : Store) (k : Nat) (r : Record) : Prop := t.slots[k]? = some (some r)

/-- R66: after a segment has ended with an outcome, by the run mode. -/
def Bench.byMode (o : SegOutcome) (b : Bench) : Bench :=
  match b.st.mode with
  | .hold => b.holdAt .mode (b.st.sc.index + 1)
  | .step => (b.setMode .hold).holdAt .step (b.st.sc.index + 1)
  | .run =>
    if o = .failed ∧ b.st.sc.stopOnFail = true then b.holdAt .fail (b.st.sc.index + 1)
    else advance 257 (b.st.sc.index + 1) b
  | .runThrough => advance 257 (b.st.sc.index + 1) b

/-- The segment `g` in progress ends with an outcome and the run mode decides what follows (R66). -/
def Bench.segmentOver (g : Segment) (o : SegOutcome) (b : Bench) : Bench := (b.finishSegment g o).byMode o

/-- R76, R82, R150, R151: `c` is the bench after a stop or a reset has ended the test of `b`. A segment in
progress has ended ABANDONED, a LISTEN with its point and its angle unit too; a leak activity before VENT has
its result fixed ABORTED and vents (marks of log entry 9, fill time of log entries 16 and 37); segment result
and leak result stand in the OPEN record of the station (log entry 24). -/
def Bench.TestEnded (b c : Bench) : Prop :=
  (∀ g, b.st.sc.segment = some g → c.st.sc.segment = none ∧ c.st.point = none ∧
    (b.st.point ≠ none → c.st.aw.state = .inactive ∧ c.st.aw.attempts = b.st.aw.attempts ∧
      c.st.aw.voids = b.st.aw.voids ∧ (b.st.aw.state = .collecting → c.st.aw.window =
        b.st.aw.window.map fun w => { w with state := .abandoned, accums := [] }))) ∧
  (b.st.lu = none → c.st.lu = none) ∧
  (∀ a, b.st.lu = some a → c.st.lu = some
    (if a.phase = .vent ∨ a.phase = .done then a
    else { a with
      phase := .vent, timer := 0, mark := if a.mark = .started then .started else .entered
      result := some .aborted, reason := none, block := none
      fillTime := if a.phase = .fill ∧ a.fillTime = none then some a.timer else a.fillTime })) ∧
  ∀ k q, b.store.At k q → q.id = b.st.sc.recordId → q.closed = false → ∃ q', c.store.At k q' ∧
    (b.st.sc.segment = none → q'.segs = q.segs) ∧
    (∀ g, b.st.sc.segment = some g →
      (q.segs.length < 64 → q'.segs = q.segs ++ [
        { recipe := b.topRecipe, index := b.st.sc.index, kind := g.body.kind, outcome := .abandoned
          duration := b.st.sc.segTimer, maxError := b.st.dc.maxError, maxTorque := b.st.dc.maxTorque
          clamped := b.st.dc.clamped }]) ∧
      (64 ≤ q.segs.length → q'.segs = q.segs ∧ q'.segsTruncated = true)) ∧
    (b.st.lu = none → q'.leak = q.leak) ∧
    ∀ a, b.st.lu = some a →
      (a.phase = .vent ∨ a.phase = .done ∨ a.owner ≠ b.st.sc.recordId → q'.leak = q.leak) ∧
      (a.phase ≠ .vent → a.phase ≠ .done → a.owner = b.st.sc.recordId → q'.leak = some
        ⟨.aborted, none, if a.phase = .fill ∧ a.fillTime = none then some a.timer else a.fillTime,
          a.bStart.map Prod.fst, a.computed⟩)

/-- The station is RUNNING the segment `g`. -/
def State.Runs (s : State) (i : StNo) (g : Segment) : Prop :=
  (s.stations.get i).sc.state = .running ∧ (s.stations.get i).sc.segment = some g

/-! ### Invariants -/

/-- A 16-bit counter (R18). -/
def Fits (n : Nat) : Prop := n ≤ 65535

/-- The counters of a head entry fit (R18). -/
def HeadEntry.CountersFit (h : HeadEntry) : Prop := Fits h.gap ∧ Fits h.outOfOrder ∧ Fits h.resync

/-- Queues keep within their places (R3, R22, R170) and counters within 16 bits (R18, R168). -/
def State.Bounded (s : State) : Prop :=
  s.rp.buffer.length ≤ 4 ∧ s.queue.length ≤ 4 ∧
  Fits s.rp.checkErrors ∧ Fits s.rp.misdirected ∧ Fits s.rp.returned ∧ Fits s.rp.forwardDrops ∧
  Fits s.rp.overruns ∧ Fits s.formatErrors ∧ Fits s.tb.slips ∧ Fits s.tb.flywheels ∧
  (∀ h ∈ s.heads, h.CountersFit) ∧
  ∀ i, Fits (s.stations.get i).ou.lost ∧ (s.stations.get i).ou.pending ≤ 4

/-- A station with its safety mark set is STOPPING, and LINESTOP is asserted (R81, R175). -/
def State.LineStopHolds (s : State) : Prop :=
  ∀ i, (s.stations.get i).sc.safety = true →
    (s.stations.get i).sc.state = .stopping ∧ s.lineStop = true

/-- The drive is disabled with setpoint 0 and torque limit 0 (R83, R88). -/
def Drive.Off (d : Drive) : Prop := d.enable = false ∧ d.setpoint = 0 ∧ d.torqueLimit = 0

/-- The drive of an IDLE station and of one in a COAST stop is off, and no setpoint exceeds the lesser of
the station's max speed and the cell absolute max speed (R83, R87, R88). -/
def State.DrivesHeld (s : State) : Prop :=
  ∀ i, ((s.stations.get i).sc.state = .idle → (s.stations.get i).dc.Off) ∧
    ((s.stations.get i).sc.state = .stopping → (s.stations.get i).sc.stopKind = some .coast →
      (s.stations.get i).dc.Off) ∧
    (s.stations.get i).dc.setpoint.natAbs ≤ min (s.setups.get i).maxSpeed s.cell.absMaxSpeed

/-- A station runs a segment only while RUNNING, has a listening point only in a LISTEN, and holds a call
chain only while RUNNING or HELD, no recipe in it twice (4.2, R67, R68, R76, R116). -/
def Station.InStep (t : Station) : Prop :=
  (t.sc.segment.isSome = true → t.sc.state = .running) ∧
  (t.point.isSome = true → ∃ g, t.sc.segment = some g ∧ g.body.kind = .listen) ∧
  (t.sc.state ≠ .running → t.sc.state ≠ .held → t.sc.chain = []) ∧
  (t.sc.chain.map ChainEntry.recipe).Nodup

def State.InStep (s : State) : Prop := ∀ i, (s.stations.get i).InStep

/-- How many stations hold a recipe in their call chain. -/
def State.usersOf (s : State) (r : Nat) : Nat :=
  s.stations.toList.countP fun t => chainHolds t.sc.chain r

/-- Stations keep in step, and the in-use count of every recipe is the number of stations whose call chain
holds it (R52). -/
def State.RecipeCounts (s : State) : Prop :=
  s.InStep ∧ ∀ r, s.lib.inUse (.recipe r) = s.usersOf r

/-- How many stations use a variant slot, a limit set, an angle table (R53, R54). -/
def State.variantUsers (s : State) (k : Nat) : Nat :=
  s.stations.toList.countP fun t => t.sc.variantUse && decide (t.sc.variantSlot = some k)

def State.limitUsers (s : State) (n : Nat) : Nat :=
  s.stations.toList.countP fun t => decide (t.point.map Point.limitSet = some n)

def State.angleUsers (s : State) (n : Nat) : Nat :=
  allStations.countP fun i =>
    (s.stations.get i).point.isSome && decide ((s.setups.get i).angleTable = n)

/-- Stations keep in step, an IDLE one uses no variant, and the in-use counts are those of the users: of a
variant slot the stations that hold it (R53), of a limit set and an angle table the stations listening by
them (R54). -/
def State.UseCounts (s : State) : Prop :=
  s.InStep ∧ (∀ i, (s.stations.get i).sc.state = .idle → (s.stations.get i).sc.variantUse = false) ∧
  (∀ k, s.lib.inUse (.variant k) = s.variantUsers k) ∧
  (∀ n, s.lib.inUse (.limits n) = s.limitUsers n) ∧
  ∀ n, s.lib.inUse (.angle n) = s.angleUsers n

/-- The report store and the stations agree (R153, R155, R163): ids are 1-65535 and distinct, the stations
that are not IDLE have their OPEN records and there are no others, and the close-order queue holds the ids
of the CLOSED records, each once. -/
def State.RecordsAgree (s : State) : Prop :=
  s.store.slots.length = 16 ∧ s.store.idCounter ≤ 65535 ∧
  (∀ k r, s.store.At k r → 1 ≤ r.id ∧ r.id ≤ 65535) ∧
  (∀ j k q r, s.store.At j q → s.store.At k r → q.id = r.id → j = k) ∧
  (∀ i, (s.stations.get i).sc.state ≠ .idle → ∃ k r, s.store.At k r ∧
    r.closed = false ∧ r.id = (s.stations.get i).sc.recordId ∧ r.station = i) ∧
  (∀ k r, s.store.At k r → r.closed = false →
    (s.stations.get r.station).sc.state ≠ .idle ∧ (s.stations.get r.station).sc.recordId = r.id) ∧
  s.store.closeQueue.Nodup ∧
  ∀ id, id ∈ s.store.closeQueue ↔ ∃ k r, s.store.At k r ∧ r.closed = true ∧ r.id = id

/-- No work of a station waits. -/
def State.AllDone (s : State) : Prop := ∀ i, (s.stations.get i).todo = []

end Sys2Proof.Machine
end

