-- ==== Sys2Proof/Certificates/Slice0/Obligations.lean ====
section
/-! DEFINITION. The statements for the provers. Each docstring names the rules of spec/ it is drawn from; a
clause that is the model's own choice names its log entry. -/

open Sys2Proof Sys2Proof.Machine

/-! ### The block as a whole -/

/-- The model's queue of commands (log entry 1): a step does the front command on the state with the queue's
rest, and an empty queue idles. -/
def Obligations.StepDoesTheFrontCommand : Prop :=
  (∀ (c : Instr) (rest : List Instr) (s : State),
    step { s with pending := c :: rest } = exec c { s with pending := rest }) ∧
  ∀ s : State, s.pending = [] → step s = .next s

/-- R10: the address is the straps, 0 and 31 clamped to 30, and nothing but a power-on reset changes it. -/
def Obligations.AddressIsTheStraps : Prop :=
  (∀ (straps : BitVec 5) (s : State), ∃ t, exec (.powerOnReset straps) s = .next t ∧
    t.rp.addr.toNat = if straps.toNat = 0 ∨ straps.toNat = 31 then 30 else straps.toNat) ∧
  ∀ (c : Instr) (s t : State), (∀ straps, c ≠ .powerOnReset straps) → exec c s = .next t →
    t.rp.addr = s.rp.addr

/-- R3, R9, R11, R16, R18, R21, R28, R35, R48, R50, R58, R83, R102, R116, R132, R153, R168: what a power-on
reset leaves, whatever stood before: every table entry absent, every counter 0, setups and cell settings at
their power-on values, stations IDLE with context and drive control at their IDLE values, which are spelled.
The commands still waiting stay (log entry 1); no frame in transmission, the closed-cycle view without values
and the target last formed at 0 are the model's (log entry 4). -/
def Obligations.PowerOnResetValues : Prop :=
  Context.idle =
    { state := .idle, recordId := 0, variantSlot := none, stopOnFail := false, holdReason := none
      chain := [], index := 0, pauseRelease := false, segTimer := 0, executed := 0, variantUse := false
      stopReason := none, stopKind := none, stopTimer := 0, safety := false, segment := none } ∧
  Flags.clear =
    { reportReady := false, linkError := false, requestLost := false, headResync := false
      safety := false, airShort := false } ∧
  (∀ (α : Type) (x : α), Slow.all x = ⟨x, x, x, x, x, x⟩) ∧
  ∀ (straps : BitVec 5) (s : State), ∃ t, exec (.powerOnReset straps) s = .next t ∧
    t.pending = s.pending ∧
    t.rp.buffer = [] ∧ t.rp.window = none ∧ t.rp.ownSeq = 0 ∧ t.rp.tx = none ∧
    t.rp.checkErrors = 0 ∧ t.rp.misdirected = 0 ∧ t.rp.returned = 0 ∧ t.rp.forwardDrops = 0 ∧
    t.rp.overruns = 0 ∧
    t.tb = { cycle := 0, running := false, slips := 0, flywheels := 0 } ∧
    t.heads.length = 30 ∧
    (∀ h ∈ t.heads, h.state = .unsynced ∧ h.values = Slow.all none ∧ h.lastStamp = 0 ∧ h.gap = 0 ∧
      h.outOfOrder = 0 ∧ h.resync = 0 ∧ h.expected = 0 ∧ h.run = 0 ∧ h.fresh = Slow.all false ∧
      h.used = 0 ∧ h.signalled = false ∧ h.closed = ⟨Slow.all .noValue, false, false⟩) ∧
    t.formatErrors = 0 ∧ t.supplyOk = false ∧ t.queue = [] ∧ t.flags = Flags.clear ∧
    (∀ e, t.lib.inUse e = 0) ∧
    t.lib = ⟨List.replicate 64 none, List.replicate 48 none, List.replicate 32 none,
      List.replicate 4 none⟩ ∧
    t.cell = { ambient := 101325, supplyHead := 0, supplyThreshold := 0, supplyWait := 5000
               absMaxSpeed := 0 } ∧
    t.store.freeCount = 16 ∧ t.store.closeQueue = [] ∧ t.store.idCounter = 0 ∧ t.lineStop = false ∧
    ∀ i, (t.stations.get i).mode = .hold ∧ (t.stations.get i).sc = Context.idle ∧
      (t.stations.get i).dc.Off ∧ (t.stations.get i).aw.lastAngle = none ∧
      (t.stations.get i).point = none ∧ (t.stations.get i).lu = none ∧
      (t.stations.get i).aw.state = .inactive ∧ (t.stations.get i).aw.attempts = 0 ∧
      (t.stations.get i).aw.voids = 0 ∧ (t.stations.get i).aw.window = none ∧
      (t.stations.get i).ou.rejectPin = false ∧
      (t.stations.get i).dc =
        { enable := false, setpoint := 0, torqueLimit := 0, params := none, reached := false
          steady := false, devRun := 0, torqueRun := 0, dwell := 0, feedback := 0, latchSpeed := false
          latchTorque := false, latchFeedback := false, maxError := 0, maxTorque := 0, clamped := false
          formed := 0 } ∧
      (t.stations.get i).ou = { pass := false, reject := .ready, pulseTimer := 0, width := 1
                                recoveryTimer := 0, recovery := 0, pending := 0, lost := 0 } ∧
      t.setups.get i =
        { driveHead := 0, processHead := 0, vibrationHead := 0, channel := .a, angleTable := 0
          maxSpeed := 0, tripSpeed := 0, tripTorque := 0, maxTorque := 0, feedbackTimeout := 10
          stopRate := 100, stopTimeout := 30000, zeroBand := 50, rejectMode := .pulse, width := 1
          recovery := 0 }

/-! ### Ring port, timebase, sample intake -/

/-- R2, rows 1, 4 and 5: frames the part removes and only counts; nothing else changes. R1, R177: a frame is
good when its length field is at most 1024, as many payload bytes were received, and its check is that of
header and payload: polynomial 0x1021 from 0xFFFF, each byte most significant bit first. -/
def Obligations.RemovedFramesAreCounted : Prop :=
  (∀ bs : List Byte,
    let enter (r : Half) (bit : Bool) : Half :=
      if r.msb = bit then r <<< 1 else (r <<< 1) ^^^ 0x1021#16
    let bits (x : Byte) : List Bool := [7, 6, 5, 4, 3, 2, 1, 0].map fun k => x.getLsbD k
    crc bs = (bs.map bits).flatten.foldl enter 0xFFFF#16) ∧
  (∀ f : Frame, frameGood f = true ↔ f.length.toNat ≤ 1024 ∧ f.payload.length = f.length.toNat ∧
    f.check = crc ([f.dest, f.src, f.kind, f.seq] ++ putU16 f.length.toNat ++ f.payload)) ∧
  ∀ (f : Frame) (s : State),
    (frameGood f = false → f.dest = s.rp.addr →
      exec (.frameReceived f) s = .next { s with
        rp := { s.rp with checkErrors := min 65535 (s.rp.checkErrors + 1) }
        flags := { s.flags with linkError := true } }) ∧
    (frameGood f = true → f.dest = s.rp.addr → f.kind ≠ 4 →
      exec (.frameReceived f) s = .next { s with
        rp := { s.rp with misdirected := min 65535 (s.rp.misdirected + 1) } }) ∧
    (frameGood f = true → f.dest ≠ s.rp.addr → f.src = s.rp.addr →
      exec (.frameReceived f) s = .next { s with
        rp := { s.rp with returned := min 65535 (s.rp.returned + 1) } })

/-- R2, R4, R22: a good REQUEST addressed to the part joins the end of the queue, or is lost at a full one.
Its arrival status is OK exactly when the payload holds kind, tag and force mark and the body is as long as
11.3 gives for its kind and the counts it carries; a kind outside the catalogue is not judged, however short
the payload (log entry 14). -/
def Obligations.RequestIsTakenOrLost : Prop :=
  (∀ (p : List Byte),
    let k := byteAt p 0
    let body := p.drop 3
    let given :=
      match k with
      | 1 | 11 | 20 | 21 => 0
      | 9 | 12 | 15 | 16 | 19 => 1
      | 14 | 18 => 2
      | 6 | 17 => 3
      | 7 => 4
      | 2 => 10
      | 10 => 18
      | 8 => 51
      | 3 => 3 + 30 * byteAt body 2
      | 4 => 14 + 10 * byteAt body 13
      | 5 => 7 + 2 * u16At body 5
      | _ => 5 + byteAt body 4
    (1 ≤ k ∧ k ≤ 21 → (arrivalOf p = .ok ↔ 3 ≤ p.length ∧ body.length = given)) ∧
    (k = 0 ∨ 21 < k → arrivalOf p = .ok)) ∧
  ∀ (f : Frame) (s : State), frameGood f = true → f.dest = s.rp.addr → f.kind = 4 →
    (s.queue.length < 4 → exec (.frameReceived f) s = .next { s with
      queue := s.queue ++ [
        { source := f.src, kind := f.payload.getD 0 0, tag := f.payload.getD 1 0,
          force := decide (f.payload.getD 2 0 ≠ 0), body := f.payload.drop 3,
          arrival := arrivalOf f.payload, state := .waiting }] }) ∧
    (4 ≤ s.queue.length → exec (.frameReceived f) s = .next { s with
      flags := { s.flags with requestLost := true } })

/-- R2, R3: a frame that is only forwarded is sent at once, waits at the end of the buffer, or is dropped and
counted; nothing else changes. `forward` says so of every frame that is forwarded, read or not. -/
def Obligations.ForwardedFrame : Prop :=
  (∀ (f : Frame) (s : State),
    (s.rp.tx = none → s.rp.buffer = [] → s.ownReady = false →
      s.forward f = { s with rp := { s.rp with tx := some ⟨.forwarded, f⟩ } }) ∧
    (¬ (s.rp.tx = none ∧ s.rp.buffer = [] ∧ s.ownReady = false) → s.rp.buffer.length < 4 →
      s.forward f = { s with rp := { s.rp with buffer := s.rp.buffer ++ [f] } }) ∧
    (4 ≤ s.rp.buffer.length →
      s.forward f = { s with rp := { s.rp with forwardDrops := min 65535 (s.rp.forwardDrops + 1) } })) ∧
  ∀ (f : Frame) (s : State), f.dest ≠ s.rp.addr →
    (frameGood f = true → f.src ≠ s.rp.addr ∧ f.kind ≠ 1 ∧ f.kind ≠ 2) →
    (s.rp.tx = none → s.rp.buffer = [] → s.ownReady = false →
      exec (.frameReceived f) s = .next { s with rp := { s.rp with tx := some ⟨.forwarded, f⟩ } }) ∧
    (¬ (s.rp.tx = none ∧ s.rp.buffer = [] ∧ s.ownReady = false) → s.rp.buffer.length < 4 →
      exec (.frameReceived f) s = .next { s with rp := { s.rp with buffer := s.rp.buffer ++ [f] } }) ∧
    (4 ≤ s.rp.buffer.length →
      exec (.frameReceived f) s = .next { s with
        rp := { s.rp with forwardDrops := min 65535 (s.rp.forwardDrops + 1) } })

/-- R11, R177: a good CYCLE frame of length 4 gives TB its number, counts a slip when the number is not the
local one plus 1 and the timer runs, and starts the timer; one of another length is only forwarded. -/
def Obligations.CycleFrameSetsTheCycle : Prop :=
  ∀ (f : Frame) (s : State), frameGood f = true → f.dest ≠ s.rp.addr → f.src ≠ s.rp.addr → f.kind = 1 →
    (f.length = 4 → ∃ t, exec (.frameReceived f) s = .next t ∧
      t.tb.cycle.toNat = u32At f.payload 0 ∧ t.tb.running = true ∧ t.tb.flywheels = s.tb.flywheels ∧
      t.tb.slips =
        if s.tb.running = true ∧ u32At f.payload 0 ≠ (s.tb.cycle.toNat + 1) % 2 ^ 32
        then min 65535 (s.tb.slips + 1) else s.tb.slips) ∧
    (f.length ≠ 4 → exec (.frameReceived f) s = .next (s.forward f))

/-- R12, R16: an expiry of the running timer raises the cycle number modulo 2^32 and the flywheel counter and
closes every head's cycle, as the heads stand once the steps due before it are done (log entry 1); with the
timer stopped nothing happens. -/
def Obligations.FlywheelMakesACycle : Prop :=
  ∀ s : State,
    (s.tb.running = true → ∃ t, exec .flywheelExpiry s = .next t ∧
      t.tb = { cycle := s.tb.cycle + 1, running := true, slips := s.tb.slips,
               flywheels := min 65535 (s.tb.flywheels + 1) } ∧
      t.heads = s.settle.heads.map HeadEntry.closeCycle) ∧
    (s.tb.running = false → exec .flywheelExpiry s = .next s)

/-- R2, R13, R14, R16, R178: a good SAMPLE frame is forwarded, before it is read (log entry 8), and tracked
against its node's entry as it stands once the steps due before it are done (log entry 1), or counted as ill
formed: it holds 5 bytes at least and is as long as its content marks give. Each slow slot whose mark is set
gives its value and its fresh mark; the others keep theirs. The close of a cycle makes a slot fresh, held or
without a value, finds the absent cycle, and clears the cycle marks; an UNSYNCED entry has no fresh value (log
entry 15). R17: each station that names the node as its vibration head is handed, in station order (log entry
7), the gap signal that a used frame reveals, then the 32 sample sets of its fast block in set order, or a gap
where it carries none; an unused frame hands on nothing. A station that does not name it is not touched. -/
def Obligations.SampleFrameIsTracked : Prop :=
  (∀ p : List Byte, sampleWellFormed p = true ↔ 5 ≤ p.length ∧ p.length =
    if (byteAt p 4).testBit 0 = true then (if (byteAt p 4).testBit 1 = true then 222 else 197)
    else if (byteAt p 4).testBit 1 = true then 30 else 5) ∧
  (∀ (hs : List HeadEntry) (n : Nat),
    (∀ h, headOf hs n = some h ↔ 1 ≤ n ∧ hs[n - 1]? = some h) ∧
    (∀ h, putHead hs n h = if n = 0 then hs else hs.set (n - 1) h) ∧
    (∀ h, headOf hs n = some h → closedOf hs n = h.closed) ∧
    (headOf hs n = none → closedOf hs n = ⟨Slow.all .noValue, false, false⟩) ∧
    (headSynced hs n = true ↔ ∃ h, headOf hs n = some h ∧ h.state = .synced)) ∧
  (∀ (h : HeadEntry) (seq : Byte), h.ahead seq = (seq.toNat + 256 - h.expected.toNat) % 256) ∧
  (∀ h : HeadEntry,
    let closed (v : Option Int) (fresh : Bool) : Reading :=
      match v with
      | none => .noValue
      | some x => if fresh = true ∧ h.state = .synced then .fresh x else .held x
    h.closeCycle = { h with
      closed :=
        { slots := ⟨closed h.values.speed h.fresh.speed, closed h.values.torque h.fresh.torque,
            closed h.values.housing h.fresh.housing, closed h.values.airTemp h.fresh.airTemp,
            closed h.values.oil h.fresh.oil, closed h.values.supply h.fresh.supply⟩
          absent := decide (h.state = .synced ∧ h.used = 0)
          signalled := h.signalled }
      fresh := Slow.all false
      used := 0
      signalled := false }) ∧
  ∀ (f : Frame) (s : State), frameGood f = true → f.dest ≠ s.rp.addr → f.src ≠ s.rp.addr → f.kind = 2 →
    let z := (s.forward f).settle
    let fast : List Todo :=
      if (byteAt f.payload 4).testBit 0 = true then
        (List.range 32).map fun j => .sampleSet
          { a := s16At f.payload (5 + 6 * j), b := s16At f.payload (7 + 6 * j)
            angle := BitVec.ofNat 16 (u16At f.payload (9 + 6 * j)) }
      else [.gap]
    let hand (ts : List Todo) (i : StNo) (u : State) : State :=
      if (s.setups.get i).vibrationHead = f.src.toNat then u.give i ts else u
    let handAll (ts : List Todo) (u : State) : State := hand ts 3 (hand ts 2 (hand ts 1 (hand ts 0 u)))
    (∀ h, headOf (s.forward f).settle.heads f.src.toNat = some h → sampleWellFormed f.payload = true →
      ∃ t h', exec (.frameReceived f) s = .next t ∧ headOf t.heads f.src.toNat = some h' ∧
        (∀ n, n ≠ f.src.toNat → headOf t.heads n = headOf (s.forward f).settle.heads n) ∧
        t.formatErrors = s.formatErrors ∧
        (h.state = .unsynced → t = (handAll fast { z with
          heads := putHead z.heads f.src.toNat h', flags := { z.flags with headResync := true } }).pump) ∧
        (h.state = .synced → h.ahead f.seq ≤ 8 →
          t = (handAll (if h.ahead f.seq = 0 then fast else .gap :: fast)
            { z with heads := putHead z.heads f.src.toNat h' }).pump) ∧
        (h.state = .synced → 9 ≤ h.ahead f.seq →
          t = State.pump { z with heads := putHead z.heads f.src.toNat h' }) ∧
        (h.state = .unsynced ∨ h.ahead f.seq ≤ 8 →
          h'.state = .synced ∧ h'.expected = f.seq + 1 ∧ h'.run = 0 ∧ h'.used = h.used + 1 ∧
          h'.lastStamp.toNat = u32At f.payload 0 ∧
          h'.gap = (if h.state = .unsynced ∨ h.ahead f.seq = 0 then h.gap
            else min 65535 (h.gap + h.ahead f.seq)) ∧
          h'.outOfOrder = h.outOfOrder ∧ h'.resync = h.resync ∧ h'.closed = h.closed ∧
          h'.signalled = (h.signalled || decide (h.state = .synced ∧ h.ahead f.seq ≠ 0)) ∧
          (let marks := byteAt f.payload 4
           let start := if marks.testBit 0 then 197 else 5
           let slot (k : Nat) : Option Int :=
             if marks.testBit 1 = true ∧ (byteAt f.payload start).testBit k = true
             then some (s32At f.payload (start + 1 + 4 * k)) else none
           h'.values = ⟨(slot 0).or h.values.speed, (slot 1).or h.values.torque,
             (slot 2).or h.values.housing, (slot 3).or h.values.airTemp, (slot 4).or h.values.oil,
             (slot 5).or h.values.supply⟩ ∧
           h'.fresh = ⟨h.fresh.speed || (slot 0).isSome, h.fresh.torque || (slot 1).isSome,
             h.fresh.housing || (slot 2).isSome, h.fresh.airTemp || (slot 3).isSome,
             h.fresh.oil || (slot 4).isSome, h.fresh.supply || (slot 5).isSome⟩)) ∧
        (∀ i, (s.setups.get i).vibrationHead ≠ f.src.toNat →
          t.stations.get i = (s.forward f).settle.stations.get i) ∧
        (h.state = .unsynced → t.flags.headResync = true) ∧
        (h.state = .synced → 9 ≤ h.ahead f.seq →
          h' = { h with outOfOrder := min 65535 (h.outOfOrder + 1), run := h.run + 1 })) ∧
    ((headOf (s.forward f).settle.heads f.src.toNat = none ∨ sampleWellFormed f.payload = false) →
      ∃ t, exec (.frameReceived f) s = .next t ∧ t.heads = (s.forward f).settle.heads ∧
        t.formatErrors = min 65535 (s.formatErrors + 1))

/-- R15: when a head's run has reached 3 its entry returns to UNSYNCED and the resync counter rises; every
other entry stays. R17: each station that names the node as its vibration head is handed a gap signal, in
station order (log entry 7), after the steps of stations due before it (log entry 1). With the run below 3
nothing happens (log entry 1); a node without an entry is an ill formed command (log entry 10). -/
def Obligations.LossOfSyncUnsyncs : Prop :=
  ∀ (node : Nat) (s : State) (h : HeadEntry),
    (1 ≤ node → node ≤ 30 → headOf s.heads node = some h → 3 ≤ h.run →
      ∃ t, exec (.lossOfSync node) s = .next t ∧
        headOf t.heads node = some { h with
          state := .unsynced, expected := 0, run := 0, resync := min 65535 (h.resync + 1)
          signalled := true } ∧
        (∀ n, n ≠ node → headOf t.heads n = headOf s.heads n) ∧
        let hand (i : StNo) (u : State) : State :=
          if (s.setups.get i).vibrationHead = node then u.give i [.gap] else u
        t = (hand 3 (hand 2 (hand 1 (hand 0 { s.settleStations with
          heads := putHead s.heads node { h with
            state := .unsynced, expected := 0, run := 0, resync := min 65535 (h.resync + 1)
            signalled := true } })))).pump) ∧
    (1 ≤ node → node ≤ 30 → headOf s.heads node = some h → h.run < 3 →
      exec (.lossOfSync node) s = .next s) ∧
    (node = 0 ∨ 30 < node → exec (.lossOfSync node) s = .fault (.noSuchHead node))

/-- R6, R7, R8: the end of a transmission frees the side, which then chooses its next frame (`pump`). At the
end of a REPLY frame the entry in transmission leaves the queue, every other entry stays in its place, and the
window closes after its last reply. At the end of the last SETPOINT frame of the window the part takes the
reply part: up to two unsent replies, or none and the window closes. With no frame in transmission nothing
ends. -/
def Obligations.TransmissionEndFreesTheSide : Prop :=
  (∀ r : Request, r.unsent = true ↔ ∃ a, r.state = .answered a false) ∧
  ∀ (s : State) (f : Frame),
    (∀ older r a younger, s.rp.tx = some ⟨.reply, f⟩ → s.queue = older ++ r :: younger →
      (∀ q ∈ older, ∀ b, q.state ≠ .answered b true) → r.state = .answered a true →
      ((∃ w, s.rp.window = some w ∧ w.setpoints = [] ∧ w.replies = some 0) →
        exec .transmissionEnd s = .next (State.pump { s with
          queue := older ++ younger
          rp := { s.rp with tx := none, window := none } })) ∧
      ((∀ w, s.rp.window = some w → w.setpoints ≠ [] ∨ w.replies ≠ some 0) →
        exec .transmissionEnd s = .next (State.pump { s with
          queue := older ++ younger
          rp := { s.rp with tx := none } }))) ∧
    (s.rp.tx = some ⟨.setpoint, f⟩ →
      (∀ w, s.rp.window = some w → w.setpoints = [] → w.replies = none →
        exec .transmissionEnd s = .next (State.pump { s with
          rp := { s.rp with
            tx := none
            window :=
              if s.queue.countP Request.unsent = 0 then none
              else some ⟨[], some (min 2 (s.queue.countP Request.unsent))⟩ } })) ∧
      ((∀ w, s.rp.window = some w → w.setpoints ≠ [] ∨ w.replies ≠ none) →
        exec .transmissionEnd s = .next (State.pump { s with rp := { s.rp with tx := none } }))) ∧
    (s.rp.tx = some ⟨.forwarded, f⟩ →
      exec .transmissionEnd s = .next (State.pump { s with rp := { s.rp with tx := none } })) ∧
    (s.rp.tx = none → exec .transmissionEnd s = .next s)

/-- R5, R6, R7, R8, R48, R177, R178: the idle side sends the first own frame of the window when it is ready: a
SETPOINT frame to the drive head named when the window opened (log entry 23), with the sequence and the
contents of that moment, or a REPLY frame to the source of the oldest unsent entry with the contents as
formed, the entry then in transmission. The frame leaves the window's list. Else it sends the oldest waiting
frame; else nothing. An own frame is header, payload and check, the check computed over the rest and sent high
byte first, 8 bytes when the payload is empty. 11.1: fields are sent most significant byte first, signed ones
in two's complement. -/
def Obligations.DownstreamChoice : Prop :=
  (∀ n : Nat, putU8 n = [BitVec.ofNat 8 n] ∧ putU16 n = [BitVec.ofNat 8 (n / 256), BitVec.ofNat 8 n] ∧
    putU32 n = [BitVec.ofNat 8 (n / 16777216), BitVec.ofNat 8 (n / 65536), BitVec.ofNat 8 (n / 256),
      BitVec.ofNat 8 n]) ∧
  (∀ x : Int, putS16 x = putU16 (x % 65536).toNat ∧ putS32 x = putU32 (x % 4294967296).toNat) ∧
  (∀ s : State, s.ownReady = true ↔ ∃ w, s.rp.window = some w ∧
    ((∃ i d rest, w.setpoints = (i, d) :: rest ∧ (s.stations.get i).ready = true) ∨
      (w.setpoints = [] ∧ ∃ k, w.replies = some (k + 1)))) ∧
  ∀ s : State, s.rp.tx = none →
    (∀ w i dest rest, s.rp.window = some w → w.setpoints = (i, dest) :: rest →
      (s.stations.get i).ready = true →
      s.pump.rp.tx = some ⟨.setpoint, buildFrame (BitVec.ofNat 8 dest) s.rp.addr 3 s.rp.ownSeq
        (s.setpointPayload i)⟩ ∧
      s.pump.rp.ownSeq = s.rp.ownSeq + 1 ∧ s.pump.rp.buffer = s.rp.buffer ∧
      s.pump.rp.window = some { w with setpoints := rest } ∧ s.pump.queue = s.queue) ∧
    (∀ i, s.setpointPayload i =
      putU8 i.val ++
      putU8 ((if (s.stations.get i).dc.enable = true then 1 else 0) +
        (if ∃ a, (s.stations.get i).lu = some a ∧ a.phase = .fill then 2 else 0) +
        (if ∃ a, (s.stations.get i).lu = some a ∧ a.phase = .vent then 4 else 0)) ++
      putS32 (s.stations.get i).dc.setpoint ++ putU32 (s.stations.get i).dc.torqueLimit) ∧
    (∀ w k older r a younger, s.rp.window = some w → w.setpoints = [] → w.replies = some (k + 1) →
      s.queue = older ++ r :: younger → (∀ q ∈ older, ∀ b, q.state ≠ .answered b false) →
      r.state = .answered a false →
      s.pump = { s with
        queue := older ++ { r with state := .answered a true } :: younger
        rp := { s.rp with
          tx := some ⟨.reply, buildFrame r.source s.rp.addr 5 s.rp.ownSeq a.bytes⟩
          ownSeq := s.rp.ownSeq + 1
          window := some { w with replies := some k } } }) ∧
    (∀ (dest kind : Byte) (payload : List Byte), payload.length < 65536 →
      let f := buildFrame dest s.rp.addr kind s.rp.ownSeq payload
      let covered := [dest, s.rp.addr, kind, s.rp.ownSeq] ++ putU16 payload.length ++ payload
      frameBytes f = covered ++ putU16 (crc covered).toNat ∧
      (frameBytes f).length = 8 + payload.length ∧ frameOfBytes (frameBytes f) = some f ∧
      (payload.length ≤ 1024 → frameGood f = true)) ∧
    (s.ownReady = false → ∀ f rest, s.rp.buffer = f :: rest →
      s.pump = { s with rp := { s.rp with tx := some ⟨.forwarded, f⟩, buffer := rest } }) ∧
    (s.ownReady = false → s.rp.buffer = [] → s.pump = s)

/-- R6, R9, R11, R12, R16, R65, R77, R83, R85, R126, R133, R135, R171: at a ring cycle event the old window
ends, its unsent SETPOINT frames counted as overruns, and the new one lists each station that names a drive
head, in station order; an empty list takes the reply part at once, at most two replies. A flywheel expiry and
a CYCLE frame, once the steps due before it are done (log entry 1) and TB has taken it, are a ring cycle
event: the window opens, every head's cycle closes, the frame of each IDLE station alone is ready (log entry
29), the supply is OK when its fresh value reaches the threshold, and the stations work in order 0 to 3, each
up to its first due step, in the order of log entries 5 to 8; then the side chooses. Of that work the timers
rise, and a leak activity counts from there on as one begun before this event (log entry 9), and the frame of
the station becomes ready; each leaves the rest of the station as it was. -/
def Obligations.WindowOpens : Prop :=
  (∀ s : State, s.tb.running = true →
    exec .flywheelExpiry s = .next (State.ringCycle { s.settle with
      tb := { s.settle.tb with
        cycle := s.settle.tb.cycle + 1
        flywheels := min 65535 (s.settle.tb.flywheels + 1) } })) ∧
  (∀ (f : Frame) (s : State), frameGood f = true → f.dest ≠ s.rp.addr → f.src ≠ s.rp.addr →
    f.kind = 1 → f.length = 4 →
    let z := (s.forward f).settle
    exec (.frameReceived f) s = .next (State.ringCycle { z with
      tb := { z.tb with
        cycle := BitVec.ofNat 32 (u32At f.payload 0)
        running := true
        slips :=
          if z.tb.running = true ∧ BitVec.ofNat 32 (u32At f.payload 0) ≠ z.tb.cycle + 1
          then min 65535 (z.tb.slips + 1) else z.tb.slips } })) ∧
  (∀ s : State,
    let ready (i : StNo) : Station :=
      { s.stations.get i with ready := decide ((s.stations.get i).sc.state = .idle) }
    let c := { s.openWindow with
      heads := s.heads.map HeadEntry.closeCycle
      stations := ⟨ready 0, ready 1, ready 2, ready 3⟩
      supplyOk :=
        match (closedOf (s.heads.map HeadEntry.closeCycle) s.cell.supplyHead).slots.supply with
        | .fresh v => decide ((s.cell.supplyThreshold : Int) ≤ v)
        | _ => false }
    let work (i : StNo) : List Todo :=
      if (closedOf c.heads (s.setups.get i).vibrationHead).absent = true
      then [.timers, .outputs, .absent, .trips, .form, .supervise, .ready, .stopTest, .leakWork,
        .steadyTest, .listenLimit, .stopLimit]
      else [.timers, .outputs, .trips, .form, .supervise, .ready, .stopTest, .leakWork, .steadyTest,
        .listenLimit, .stopLimit]
    s.ringCycle = ((((c.give 0 (work 0)).give 1 (work 1)).give 2 (work 2)).give 3 (work 3)).pump) ∧
  (∀ b : Bench, b.work .timers = { b with st := { b.st with
      sc := { b.st.sc with
        segTimer :=
          if b.st.sc.state = .running ∧ b.st.sc.segment ≠ none
          then min 4294967295 (b.st.sc.segTimer + 1) else b.st.sc.segTimer
        stopTimer :=
          if b.st.sc.state = .stopping then min 10000000 (b.st.sc.stopTimer + 1)
          else b.st.sc.stopTimer }
      lu := b.st.lu.map fun a => { a with mark := .old } } } ∧
    b.work .ready = { b with st := { b.st with ready := true } }) ∧
  (∀ rp : RingPort, (∀ w, rp.window = some w → rp.unsentSetpoints = w.setpoints.length) ∧
    (rp.window = none → rp.unsentSetpoints = 0)) ∧
  ∀ s : State,
    s.openWindow.rp.overruns = min 65535 (s.rp.overruns + s.rp.unsentSetpoints) ∧
    s.openWindow.rp.tx = s.rp.tx ∧ s.openWindow.queue = s.queue ∧
    ((∃ i, (s.setups.get i).driveHead ≠ 0) → ∃ w, s.openWindow.rp.window = some w ∧
      w.replies = none ∧ (w.setpoints.map Prod.fst).Pairwise (· < ·) ∧
      ∀ i d, (i, d) ∈ w.setpoints ↔ d = (s.setups.get i).driveHead ∧ d ≠ 0) ∧
    ((∀ i, (s.setups.get i).driveHead = 0) →
      s.openWindow.rp.window =
        if s.queue.countP Request.unsent = 0 then none
        else some { setpoints := [], replies := some (min 2 (s.queue.countP Request.unsent)) })

/-! ### Management unit -/

/-- R23, R25, R27, R28: the end of an execution. The oldest WAITING entry, and it alone, becomes ANSWERED with
its tag, its kind, the code, the summary of the state left (flags as they stood), and the payload; then all
six flags are clear; nothing else changes. R27, R163: the summary holds each station's state, its hold reason
when HELD, its stop kind and safety mark when STOPPING, its run mode, how many ids the close-order queue holds
and its first one or 0, LINESTOP and the flags. 11.3: a reply is its header of 21 bytes, the summary from
offset 3 on, and then its payload. R182: the codes of reply, payload tag, station state and run mode. -/
def Obligations.ReplyIsFormed : Prop :=
  [ReplyCode.done, .clamped, .badLength, .badKind, .badField, .noEntry, .tableFull, .duplicate, .inUse,
    .stationBusy, .notConfigured, .headUnsynced, .noReportSpace, .wrongState, .noReport].map
    ReplyCode.code = List.range 15 ∧
  [PayloadTag.none, .status, .entry, .station, .cell, .counters, .admitted, .reportFirst, .reportMiddle,
    .reportLast, .reportSingle].map PayloadTag.code = List.range 11 ∧
  [StState.idle, .running, .held, .finishing, .stopping].map StState.code = List.range 5 ∧
  [RunMode.hold, .step, .run, .runThrough].map RunMode.code = List.range 4 ∧
  (∀ r : Request, r.waiting = true ↔ r.state = .waiting) ∧
  (∀ s : State,
    (∀ i, s.summary.stations.get i =
      { state := (s.stations.get i).sc.state
        holdReason := if (s.stations.get i).sc.state = .held then (s.stations.get i).sc.holdReason else none
        stopKind := if (s.stations.get i).sc.state = .stopping then (s.stations.get i).sc.stopKind else none
        safety := decide ((s.stations.get i).sc.state = .stopping ∧ (s.stations.get i).sc.safety = true)
        mode := (s.stations.get i).mode }) ∧
    s.summary.closedCount = s.store.closeQueue.length ∧
    (s.store.closeQueue = [] → s.summary.oldestClosed = 0) ∧
    ∀ id ids, s.store.closeQueue = id :: ids → s.summary.oldestClosed = id) ∧
  (∀ (t : StationSummary),
    (t.state = .held → ∀ x, t.holdReason = some x → t.detail =
      match x with
      | .mode => 1
      | .step => 2
      | .pause => 3
      | .fail => 4) ∧
    (t.state = .stopping → t.stopKind = some .controlled → t.detail = 1) ∧
    (t.state = .stopping → t.stopKind = some .coast → t.detail = if t.safety = true then 3 else 2) ∧
    (t.state = .idle ∨ t.state = .running ∨ t.state = .finishing → t.detail = 0)) ∧
  (∀ p : Reply,
    let station (i : StNo) : List Byte :=
      putU8 (p.summary.stations.get i).state.code ++ putU8 (p.summary.stations.get i).detail ++
        putU8 (p.summary.stations.get i).mode.code
    let flag (b : Bool) (n : Nat) : Nat := if b = true then n else 0
    p.bytes = [p.tag, p.kind] ++ putU8 p.code.code ++ station 0 ++ station 1 ++ station 2 ++ station 3 ++
      putU8 p.summary.closedCount ++ putU16 p.summary.oldestClosed ++ putU8 (flag p.summary.lineStop 1) ++
      putU8 (flag p.summary.flags.reportReady 1 + flag p.summary.flags.linkError 2 +
        flag p.summary.flags.requestLost 4 + flag p.summary.flags.headResync 8 +
        flag p.summary.flags.safety 16 + flag p.summary.flags.airShort 32) ++
      putU8 p.payloadTag.code ++ p.payload ∧
    p.bytes.length = 21 + p.payload.length) ∧
  ∀ (r : Request) (a : Answer) (older younger : List Request),
    (∀ q ∈ older, q.waiting = false) → r.state = .waiting → a.state.queue = older ++ r :: younger →
    State.reply r a = { a.state with
      flags := Flags.clear
      queue := older ++
        { r with
          state := .answered ⟨r.tag, r.kind, a.code, a.state.summary, a.tag, a.payload⟩ false }
          :: younger } ∧
    a.state.summary.flags = a.state.flags ∧ a.state.summary.lineStop = a.state.lineStop

/-- R24 checks 1 and 2, R179: a request of arrival status LENGTH is refused BAD_LENGTH, whatever its kind; a
kind outside the catalogue is answered BAD_KIND whatever the body holds; nothing but the steps due before it
happens (log entry 1). -/
def Obligations.FirstChecksRefuse : Prop :=
  (∀ (s : State) (r : Request) (k : Nat) (c : Instr), (k, c) ∈ requestCommands →
    s.queue.find? Request.waiting = some r → r.kind.toNat = k → r.arrival = .length →
    Replies c s r ⟨s.settle, .badLength, .none, [0]⟩) ∧
  ∀ (s : State) (r : Request), s.queue.find? Request.waiting = some r → r.arrival = .ok →
    r.kind.toNat = 0 ∨ 21 < r.kind.toNat → Replies .badKind s r ⟨s.settle, .badKind, .none, [0]⟩

/-- R33: STATUS answers node address, cycle number, queue entries, free and OPEN slots. R18, R19:
READ_COUNTERS answers the counters in the order of 1.9 and 11.3, 388 bytes, clears all of them when its mark
is 1, and refuses any mark but 0 and 1. Nothing but the steps due before it happens besides (log entry 1). -/
def Obligations.StatusAndCountersAreAnswered : Prop :=
  (∀ t : Store, t.freeCount = (t.slots.filter fun o => decide (o = none)).length ∧
    t.openCount = (t.slots.filter fun o => decide (o.map Record.closed = some false)).length) ∧
  (∀ s : State,
    countersPayload s = putU32 s.tb.cycle.toNat
      ++ (putU16 s.rp.checkErrors ++ putU16 s.rp.misdirected ++ putU16 s.rp.returned
        ++ putU16 s.rp.forwardDrops ++ putU16 s.rp.overruns ++ putU16 s.formatErrors
        ++ putU16 s.tb.slips ++ putU16 s.tb.flywheels)
      ++ (s.heads.map fun h => putU8 (if h.state = .synced then 1 else 0) ++ [h.expected]
        ++ putU16 h.gap ++ putU16 h.outOfOrder ++ putU16 h.resync ++ putU32 h.lastStamp.toNat).flatten
      ++ (putU16 (s.stations.get 0).ou.lost ++ putU16 (s.stations.get 1).ou.lost
        ++ putU16 (s.stations.get 2).ou.lost ++ putU16 (s.stations.get 3).ou.lost) ∧
    (s.heads.length = 30 → (countersPayload s).length = 388)) ∧
  ∀ (s : State) (r : Request),
    (s.Asks 1 r → Replies .status s r ⟨s.settle, .done, .status,
      putU8 s.settle.rp.addr.toNat ++ putU32 s.settle.tb.cycle.toNat ++ putU8 s.settle.queue.length
        ++ putU8 s.settle.store.freeCount ++ putU8 s.settle.store.openCount⟩) ∧
    (s.Asks 12 r → byteAt r.body 0 = 0 →
      Replies .readCounters s r ⟨s.settle, .done, .counters, countersPayload s.settle⟩) ∧
    (s.Asks 12 r → byteAt r.body 0 = 1 → ∃ u,
      Replies .readCounters s r ⟨u, .done, .counters, countersPayload s.settle⟩ ∧
      u.rp = { s.settle.rp with
        checkErrors := 0, misdirected := 0, returned := 0, forwardDrops := 0, overruns := 0 } ∧
      u.tb = { s.settle.tb with slips := 0, flywheels := 0 } ∧ u.formatErrors = 0 ∧
      u.heads = s.settle.heads.map (fun h => { h with gap := 0, outOfOrder := 0, resync := 0 }) ∧
      (∀ i, u.stations.get i = { s.settle.stations.get i with
        ou := { (s.settle.stations.get i).ou with lost := 0 } }) ∧
      u.lib = s.settle.lib ∧ u.setups = s.settle.setups ∧ u.cell = s.settle.cell ∧
      u.store = s.settle.store ∧ u.lineStop = s.settle.lineStop ∧ u.queue = s.settle.queue ∧
      u.flags = s.settle.flags ∧ u.supplyOk = s.settle.supplyOk ∧ u.pending = s.settle.pending) ∧
    (s.Asks 12 r → 2 ≤ byteAt r.body 0 → Replies .readCounters s r ⟨s.settle, .badField, .none, [0]⟩)

/-! ### Table store -/

/-- R37, R38: a LOAD_VARIANT whose values are in range is placed in the slot that holds its code, in the
lowest absent slot (ANY), or in the slot named; a slot not in use then holds it, count 0, and nothing but the
steps due before it changes besides (log entry 1). DUPLICATE and TABLE_FULL are the refusals of placement.
Values out of range are refused BAD_FIELD. -/
def Obligations.VariantIsPlaced : Prop :=
  (∀ (α : Type) (t : List (Option α)) (k : Nat) (x : α), entryAt t k = some x ↔ t[k]? = some (some x)) ∧
  (∀ (l : Library) (k : Nat),
    l.inUse (.variant k) = ((entryAt l.variants k).map Variant.inUse).getD 0 ∧
    l.inUse (.recipe k) = ((entryAt l.recipes k).map Recipe.inUse).getD 0 ∧
    l.inUse (.limits k) = ((entryAt l.limits k).map LimitSet.inUse).getD 0 ∧
    l.inUse (.angle k) = ((entryAt l.angles k).map AngleTable.inUse).getD 0 ∧
    ∀ code, l.slotOf code = some k ↔ (∃ v, entryAt l.variants k = some v ∧ v.code = code) ∧
      ∀ j v, j < k → entryAt l.variants j = some v → v.code ≠ code) ∧
  (∀ (s : State) (r : Request), s.Asks 2 r → u16At r.body 0 ≠ 0 →
    (byteAt r.body 2 ≤ 63 ∨ byteAt r.body 2 = 255) → byteAt r.body 3 ≤ 47 →
    100 ≤ u32At r.body 4 → u32At r.body 4 ≤ 200000 →
    (∀ k, s.settle.lib.inUse (.variant k) = 0 →
      (s.settle.lib.slotOf (u16At r.body 0) = some k ∧ (byteAt r.body 2 = 255 ∨ byteAt r.body 2 = k)) ∨
      (s.settle.lib.slotOf (u16At r.body 0) = none ∧ byteAt r.body 2 = 255 ∧
        s.settle.lib.variants.findIdx? Option.isNone = some k) ∨
      (s.settle.lib.slotOf (u16At r.body 0) = none ∧ byteAt r.body 2 = k ∧ k ≤ 63) →
      Replies .loadVariant s r ⟨{ s.settle with lib := { s.settle.lib with
        variants := s.settle.lib.variants.set k (some
          { code := u16At r.body 0, recipe := byteAt r.body 3, volume := u32At r.body 4,
            leakLimit := u16At r.body 8, inUse := 0 }) } }, .done, .none, [0]⟩) ∧
    (∀ k, s.settle.lib.slotOf (u16At r.body 0) = some k → byteAt r.body 2 ≠ 255 → byteAt r.body 2 ≠ k →
      Replies .loadVariant s r ⟨s.settle, .duplicate, .none, [0]⟩) ∧
    (s.settle.lib.slotOf (u16At r.body 0) = none → byteAt r.body 2 = 255 →
      s.settle.lib.variants.findIdx? Option.isNone = none →
      Replies .loadVariant s r ⟨s.settle, .tableFull, .none, [0]⟩)) ∧
  ∀ (s : State) (r : Request), s.Asks 2 r →
    u16At r.body 0 = 0 ∨ (63 < byteAt r.body 2 ∧ byteAt r.body 2 ≠ 255) ∨ 47 < byteAt r.body 3 ∨
      u32At r.body 4 < 100 ∨ 200000 < u32At r.body 4 →
    Replies .loadVariant s r ⟨s.settle, .badField, .none, [0]⟩

/-- R39, R40, R180: the segment entries of 1 to 32 in-range segments are read back as exactly those segments,
whatever stands before them in the body. The ranges of a segment, the 30 bytes of its entry and what an entry
is read as are spelled; R182: kind codes 1 to 8 and PAUSE 0 or 1, no other code is read. -/
def Obligations.SegmentEntriesRoundTrip : Prop :=
  (∀ g : Segment,
    let fits (lo hi n : Nat) : Prop := lo ≤ n ∧ n ≤ hi
    let moves (m : Motion) : Prop := -1000000 ≤ m.target ∧ m.target ≤ 1000000 ∧
      fits 1 100000 m.rate ∧ fits 0 100000 m.band ∧ fits 1 255 m.persist
    (g.inRange = true ↔
      match g.body with
      | .ramp m torque most => moves m ∧ fits 0 2000000 torque ∧ fits 1 10000000 most
      | .dwell m torque duration => moves m ∧ fits 0 2000000 torque ∧ fits 0 10000000 duration
      | .listen m most set n attempts =>
        moves m ∧ fits 1 10000000 most ∧ fits 0 31 set ∧ fits 1 64 n ∧ fits 3 8 attempts
      | .leakStart p =>
        fits 1 400000 p.fillTarget ∧ fits 1 600000 p.fillTimeout ∧ fits 1 600000 p.settle ∧
        fits 1000 60000 p.measure ∧ fits 4 64 p.averaging ∧ fits 0 60000 p.holdLimit ∧
        fits 0 400000 p.ventThreshold ∧ fits 1 600000 p.ventTimeout
      | .leakWait most => fits 1 10000000 most
      | .call r => fits 0 47 r ∧ g.pause = false
      | .chain r => fits 0 47 r ∧ g.pause = false
      | .finish => g.pause = false) ∧
    let entry (kind : Nat) (used : List Byte) : List Byte :=
      putU8 kind ++ putU8 (if g.pause = true then 1 else 0) ++ used ++ List.replicate (28 - used.length) 0
    let motion (m : Motion) : List Byte := putS32 m.target ++ putU32 m.rate ++ putU32 m.band
    g.bytes =
      match g.body with
      | .ramp m torque most => entry 1 (motion m ++ putU32 torque ++ putU32 most ++ putU8 m.persist)
      | .dwell m torque duration =>
        entry 2 (motion m ++ putU32 torque ++ putU32 duration ++ putU8 m.persist)
      | .listen m most set n attempts =>
        entry 3 (motion m ++ putU32 most ++ putU8 set ++ putU8 n ++ putU8 attempts ++ putU8 0 ++
          putU8 m.persist)
      | .leakStart p =>
        entry 4 (putU32 p.fillTarget ++ putU32 p.fillTimeout ++ putU32 p.settle ++
          putU32 p.ventThreshold ++ putU32 p.ventTimeout ++ putU16 p.measure ++ putU16 p.holdLimit ++
          putU8 p.averaging)
      | .leakWait most => entry 5 (putU32 most)
      | .call r => entry 6 (putU8 r)
      | .chain r => entry 7 (putU8 r)
      | .finish => entry 8 []) ∧
  (∀ gs : List Segment, segmentsBytes gs = (gs.map Segment.bytes).flatten) ∧
  (∀ (bs : List Byte) (n first : Nat) (gs : List Segment), segmentsAt bs n first = some gs ↔
    gs.length = n ∧ ∀ j g, gs[j]? = some g →
      let o := first + 30 * j
      let motion : Motion := ⟨s32At bs (o + 2), u32At bs (o + 6), u32At bs (o + 10), byteAt bs (o + 22)⟩
      g.inRange = true ∧ byteAt bs o = g.body.kind.code ∧
      byteAt bs (o + 1) = (if g.pause = true then 1 else 0) ∧
      g.body =
        match g.body.kind with
        | .ramp => .ramp motion (u32At bs (o + 14)) (u32At bs (o + 18))
        | .dwell => .dwell motion (u32At bs (o + 14)) (u32At bs (o + 18))
        | .listen => .listen motion (u32At bs (o + 14)) (byteAt bs (o + 18)) (byteAt bs (o + 19))
            (byteAt bs (o + 20))
        | .leakStart => .leakStart
            { fillTarget := u32At bs (o + 2), fillTimeout := u32At bs (o + 6)
              settle := u32At bs (o + 10), ventThreshold := u32At bs (o + 14)
              ventTimeout := u32At bs (o + 18), measure := u16At bs (o + 22)
              holdLimit := u16At bs (o + 24), averaging := byteAt bs (o + 26) }
        | .leakWait => .leakWait (u32At bs (o + 2))
        | .call => .call (byteAt bs (o + 2))
        | .chain => .chain (byteAt bs (o + 2))
        | .finish => .finish) ∧
  ∀ (before after : List Byte) (gs : List Segment), (∀ g ∈ gs, g.inRange = true) →
    (segmentsBytes gs).length = 30 * gs.length ∧
    segmentsAt (before ++ segmentsBytes gs ++ after) gs.length before.length = some gs

/-- R40, R41, R47: a recipe of 1 to 32 in-range segments ending in END or CHAIN, loaded at a number not in
use, replaces the recipe there whole, and READ_ENTRY of that number then answers the very bytes loaded.
A count outside 1-32 is refused BAD_LENGTH, a value or segment out of range, or a last segment that is neither
END nor CHAIN, BAD_FIELD. Nothing but the steps due before it changes besides (log entry 1). -/
def Obligations.RecipeIsLoadedAndReadBack : Prop :=
  (∀ gs : List Segment, endsWell gs = true ↔
    ∃ g, gs.getLast? = some g ∧ (g.body = .finish ∨ ∃ r, g.body = .chain r)) ∧
  (∀ (s : State) (r q : Request) (n : Nat) (stop : Bool) (gs : List Segment),
    s.Asks 3 r → n ≤ 47 → s.settle.lib.recipes.length = 48 → (∀ g ∈ gs, g.inRange = true) →
    1 ≤ gs.length → gs.length ≤ 32 → endsWell gs = true →
    r.body = putU8 n ++ putMark stop ++ putU8 gs.length ++ segmentsBytes gs →
    s.settle.lib.inUse (.recipe n) = 0 →
    q.body = [2, 0] ++ putU8 n ++ [0] →
    ∃ u, Replies .loadRecipe s r ⟨u, .done, .none, [0]⟩ ∧
      u = { s.settle with lib := { s.settle.lib with
        recipes := s.settle.lib.recipes.set n
          (some { stopOnFail := stop, segments := gs, inUse := 0 }) } } ∧
      opReadEntry q u = ⟨u, .done, .entry, [2, 0] ++ putU8 n ++ [0] ++ r.body⟩) ∧
  ∀ (s : State) (r : Request), s.Asks 3 r →
    (byteAt r.body 2 = 0 ∨ 32 < byteAt r.body 2 →
      Replies .loadRecipe s r ⟨s.settle, .badLength, .none, [0]⟩) ∧
    (1 ≤ byteAt r.body 2 → byteAt r.body 2 ≤ 32 →
      47 < byteAt r.body 0 ∨ 1 < byteAt r.body 1 ∨ segmentsAt r.body (byteAt r.body 2) 3 = none →
      Replies .loadRecipe s r ⟨s.settle, .badField, .none, [0]⟩) ∧
    (∀ gs, 1 ≤ byteAt r.body 2 → byteAt r.body 2 ≤ 32 →
      segmentsAt r.body (byteAt r.body 2) 3 = some gs → endsWell gs = false →
      Replies .loadRecipe s r ⟨s.settle, .badField, .none, [0]⟩)

/-- R42: a LOAD_LIMITS of 1 to 8 lines of distinct h in 1-511 and ascending edges, at a number not in use,
replaces the whole set; two lines of one h are refused DUPLICATE. A count outside 1-8 is refused BAD_LENGTH, a
value out of range BAD_FIELD. Nothing but the steps due before it changes besides (log entry 1). 11.1, 11.3:
fields are read most significant byte first, the lines of 10 bytes from offset 14 on. -/
def Obligations.LimitSetIsLoaded : Prop :=
  (∀ (bs : List Byte) (k : Nat), byteAt bs k = (bs.getD k 0).toNat ∧
    u16At bs k = 256 * byteAt bs k + byteAt bs (k + 1) ∧
    u32At bs k = 16777216 * byteAt bs k + 65536 * byteAt bs (k + 1) + 256 * byteAt bs (k + 2) +
      byteAt bs (k + 3)) ∧
  (∀ body : List Byte, orderLinesAt body = (List.range (byteAt body 13)).map fun j =>
    { order := u16At body (14 + 10 * j)
      limits := ⟨u16At body (16 + 10 * j), u16At body (18 + 10 * j), u16At body (20 + 10 * j),
        u16At body (22 + 10 * j)⟩ }) ∧
  (∀ (s : State) (r : Request), s.Asks 4 r → 1 ≤ byteAt r.body 13 → byteAt r.body 13 ≤ 8 →
    byteAt r.body 0 ≤ 31 → u32At r.body 1 < u32At r.body 5 → u32At r.body 5 < u32At r.body 9 →
    u32At r.body 9 ≤ 1000000 → (∀ o ∈ orderLinesAt r.body, 1 ≤ o.order ∧ o.order ≤ 511) →
    (((orderLinesAt r.body).map OrderLine.order).Nodup →
      s.settle.lib.inUse (.limits (byteAt r.body 0)) = 0 →
      Replies .loadLimits s r ⟨{ s.settle with lib := { s.settle.lib with
        limits := s.settle.lib.limits.set (byteAt r.body 0) (some
          { edge1 := u32At r.body 1, edge2 := u32At r.body 5, edge3 := u32At r.body 9,
            lines := orderLinesAt r.body, inUse := 0 }) } }, .done, .none, [0]⟩) ∧
    (¬ ((orderLinesAt r.body).map OrderLine.order).Nodup →
      Replies .loadLimits s r ⟨s.settle, .duplicate, .none, [0]⟩)) ∧
  ∀ (s : State) (r : Request), s.Asks 4 r →
    (byteAt r.body 13 = 0 ∨ 8 < byteAt r.body 13 →
      Replies .loadLimits s r ⟨s.settle, .badLength, .none, [0]⟩) ∧
    (1 ≤ byteAt r.body 13 → byteAt r.body 13 ≤ 8 →
      31 < byteAt r.body 0 ∨ u32At r.body 5 ≤ u32At r.body 1 ∨ u32At r.body 9 ≤ u32At r.body 5 ∨
        1000000 < u32At r.body 9 ∨ (∃ o ∈ orderLinesAt r.body, o.order = 0 ∨ 511 < o.order) →
      Replies .loadLimits s r ⟨s.settle, .badField, .none, [0]⟩)

/-- R43, R44, R45: a part with first index 0 begins the table anew; a later part that continues a load in
progress is appended, and the table is PRESENT when all E values are held; -32768 is held as -32767 and the
reply is then CLAMPED. A count outside 1-256 is refused BAD_LENGTH, a value out of range BAD_FIELD. Nothing
but the steps due before it changes besides (log entry 1). 11.1, 11.3: the values are signed fields of 2
bytes from offset 7 on, in two's complement. -/
def Obligations.AngleTableIsLoadedInParts : Prop :=
  (∀ (bs : List Byte) (k : Nat),
    s16At bs k = (if u16At bs k < 32768 then (u16At bs k : Int) else u16At bs k - 65536) ∧
    s32At bs k = (if u32At bs k < 2147483648 then (u32At bs k : Int) else u32At bs k - 4294967296)) ∧
  (∀ body : List Byte,
    angleValuesAt body = (List.range (u16At body 5)).map fun j => s16At body (7 + 2 * j)) ∧
  (∀ (s : State) (r : Request), s.Asks 5 r → 1 ≤ u16At r.body 5 → u16At r.body 5 ≤ 256 →
    byteAt r.body 0 ≤ 3 → u16At r.body 1 % 4 = 0 → 16 ≤ u16At r.body 1 → u16At r.body 1 ≤ 1024 →
    u16At r.body 3 + u16At r.body 5 ≤ u16At r.body 1 →
    let xs := angleValuesAt r.body
    let code := if ∃ x ∈ xs, x = -32768 then ReplyCode.clamped else ReplyCode.done
    let held := xs.map fun x => if x = -32768 then -32767 else x
    (u16At r.body 3 = 0 → s.settle.lib.inUse (.angle (byteAt r.body 0)) = 0 →
      Replies .loadAngle s r ⟨{ s.settle with lib := { s.settle.lib with
        angles := s.settle.lib.angles.set (byteAt r.body 0) (some
          { state := if xs.length = u16At r.body 1 then .present else .loading, e := u16At r.body 1,
            values := held, inUse := 0 }) } }, code, .none, [0]⟩) ∧
    (∀ t, u16At r.body 3 ≠ 0 → entryAt s.settle.lib.angles (byteAt r.body 0) = some t →
      t.state = .loading → t.e = u16At r.body 1 → t.values.length = u16At r.body 3 →
      Replies .loadAngle s r ⟨{ s.settle with lib := { s.settle.lib with
        angles := s.settle.lib.angles.set (byteAt r.body 0) (some
          { state := if t.values.length + xs.length = t.e then .present else .loading, e := t.e,
            values := t.values ++ held, inUse := t.inUse }) } }, code, .none, [0]⟩) ∧
    (∀ t, u16At r.body 3 ≠ 0 → entryAt s.settle.lib.angles (byteAt r.body 0) = some t →
      ¬ (t.state = .loading ∧ t.e = u16At r.body 1 ∧ t.values.length = u16At r.body 3) →
      Replies .loadAngle s r ⟨s.settle, .badField, .none, [0]⟩) ∧
    (u16At r.body 3 ≠ 0 → entryAt s.settle.lib.angles (byteAt r.body 0) = none →
      Replies .loadAngle s r ⟨s.settle, .badField, .none, [0]⟩)) ∧
  ∀ (s : State) (r : Request), s.Asks 5 r →
    (u16At r.body 5 = 0 ∨ 256 < u16At r.body 5 →
      Replies .loadAngle s r ⟨s.settle, .badLength, .none, [0]⟩) ∧
    (1 ≤ u16At r.body 5 → u16At r.body 5 ≤ 256 →
      3 < byteAt r.body 0 ∨ u16At r.body 1 % 4 ≠ 0 ∨ u16At r.body 1 < 16 ∨ 1024 < u16At r.body 1 ∨
        u16At r.body 1 < u16At r.body 3 + u16At r.body 5 →
      Replies .loadAngle s r ⟨s.settle, .badField, .none, [0]⟩)

/-- R46: DELETE_ENTRY of an entry that is there and not in use makes it absent and touches no other entry; of
an absent recipe or of a code in no slot it is refused NO_ENTRY; a selector outside the five is refused
BAD_FIELD. R47, R180: READ_ENTRY answers selector, key, in-use count and contents, which are the body that
would load the entry, a variant with its slot before it and as its slot choice, an angle table with its state,
its loaded count and at most 256 values of the part named. Neither does anything besides but the steps due
before it (log entry 1). -/
def Obligations.EntriesAreDeletedAndRead : Prop :=
  (∀ (l : Library) (key : Nat),
    let finds {α : Type} (sel top : Nat) (t : List (Option α)) (e : Entry) : Prop :=
      (top < key → l.named sel key = .error .badField) ∧
      (key ≤ top → entryAt t key = none → l.named sel key = .error .noEntry) ∧
      (key ≤ top → entryAt t key ≠ none → l.named sel key = .ok e)
    finds 1 63 l.variants (.variant key) ∧ finds 2 47 l.recipes (.recipe key) ∧
    finds 3 31 l.limits (.limits key) ∧ finds 4 3 l.angles (.angle key) ∧
    l.named 0 0 = .error .badField ∧
    (key ≠ 0 → (∀ k v, entryAt l.variants k = some v → v.code ≠ key) →
      l.named 0 key = .error .noEntry) ∧
    (∀ k v, key ≠ 0 → entryAt l.variants k = some v → v.code = key →
      (∀ j w, j < k → entryAt l.variants j = some w → w.code ≠ key) →
      l.named 0 key = .ok (.variant k)) ∧
    (∀ part e, l.beyond part e = true ↔
      ∃ k, e = .angle k ∧ ∀ x, entryAt l.angles k = some x → x.values.length ≤ 256 * part) ∧
    ∀ sel, 5 ≤ sel → l.named sel key = .error .badField) ∧
  (∀ (l : Library) (k : Nat),
    (entryAt (l.delete (.variant k)).variants k = none ∧
      (∀ j, j ≠ k → entryAt (l.delete (.variant k)).variants j = entryAt l.variants j) ∧
      l.delete (.variant k) = { l with variants := (l.delete (.variant k)).variants }) ∧
    (entryAt (l.delete (.recipe k)).recipes k = none ∧
      (∀ j, j ≠ k → entryAt (l.delete (.recipe k)).recipes j = entryAt l.recipes j) ∧
      l.delete (.recipe k) = { l with recipes := (l.delete (.recipe k)).recipes }) ∧
    (entryAt (l.delete (.limits k)).limits k = none ∧
      (∀ j, j ≠ k → entryAt (l.delete (.limits k)).limits j = entryAt l.limits j) ∧
      l.delete (.limits k) = { l with limits := (l.delete (.limits k)).limits }) ∧
    (entryAt (l.delete (.angle k)).angles k = none ∧
      (∀ j, j ≠ k → entryAt (l.delete (.angle k)).angles j = entryAt l.angles j) ∧
      l.delete (.angle k) = { l with angles := (l.delete (.angle k)).angles })) ∧
  (∀ (l : Library) (k p : Nat),
    (∀ v, entryAt l.variants k = some v → l.contents p (.variant k) =
      putU8 k ++ putU16 v.code ++ putU8 k ++ putU8 v.recipe ++ putU32 v.volume ++ putU16 v.leakLimit) ∧
    (∀ e, entryAt l.recipes k = some e → l.contents p (.recipe k) =
      putU8 k ++ putMark e.stopOnFail ++ putU8 e.segments.length ++ segmentsBytes e.segments) ∧
    (∀ e, entryAt l.limits k = some e → l.contents p (.limits k) =
      putU8 k ++ putU32 e.edge1 ++ putU32 e.edge2 ++ putU32 e.edge3 ++ putU8 e.lines.length ++
        (e.lines.map fun o => putU16 o.order ++ putU16 o.limits.b0 ++ putU16 o.limits.b1 ++
          putU16 o.limits.b2 ++ putU16 o.limits.b3).flatten) ∧
    (∀ e, entryAt l.angles k = some e → l.contents p (.angle k) =
      putU8 k ++ putU8 (if e.state = .loading then 1 else 2) ++ putU16 e.e ++ putU16 e.values.length ++
        putU8 p ++ putU16 ((e.values.drop (256 * p)).take 256).length ++
        (((e.values.drop (256 * p)).take 256).map putS16).flatten)) ∧
  ∀ (s : State) (r : Request),
    (∀ e, s.Asks 6 r → s.settle.lib.named (byteAt r.body 0) (u16At r.body 1) = .ok e →
      s.settle.lib.inUse e = 0 →
      Replies .deleteEntry s r ⟨{ s.settle with lib := s.settle.lib.delete e }, .done, .none, [0]⟩) ∧
    (s.Asks 6 r → byteAt r.body 0 = 2 → u16At r.body 1 ≤ 47 →
      entryAt s.settle.lib.recipes (u16At r.body 1) = none →
      Replies .deleteEntry s r ⟨s.settle, .noEntry, .none, [0]⟩) ∧
    (s.Asks 6 r → byteAt r.body 0 = 0 → u16At r.body 1 ≠ 0 →
      s.settle.lib.slotOf (u16At r.body 1) = none →
      Replies .deleteEntry s r ⟨s.settle, .noEntry, .none, [0]⟩) ∧
    (s.Asks 6 r → 5 ≤ byteAt r.body 0 → Replies .deleteEntry s r ⟨s.settle, .badField, .none, [0]⟩) ∧
    (∀ c, s.Asks 6 r → s.settle.lib.named (byteAt r.body 0) (u16At r.body 1) = .error c →
      Replies .deleteEntry s r ⟨s.settle, c, .none, [0]⟩) ∧
    (s.Asks 7 r → s.settle.lib.named (byteAt r.body 0) (u16At r.body 1) = .error .noEntry →
      ((byteAt r.body 0 ≠ 4 → byteAt r.body 3 = 0) → (byteAt r.body 0 = 4 → byteAt r.body 3 ≤ 3) →
        Replies .readEntry s r ⟨s.settle, .noEntry, .none, [0]⟩) ∧
      ((byteAt r.body 0 ≠ 4 ∧ byteAt r.body 3 ≠ 0) ∨ (byteAt r.body 0 = 4 ∧ 3 < byteAt r.body 3) →
        Replies .readEntry s r ⟨s.settle, .badField, .none, [0]⟩)) ∧
    (s.Asks 7 r → s.settle.lib.named (byteAt r.body 0) (u16At r.body 1) = .error .badField →
      Replies .readEntry s r ⟨s.settle, .badField, .none, [0]⟩) ∧
    (∀ e, s.Asks 7 r → byteAt r.body 0 = 4 → s.settle.lib.named 4 (u16At r.body 1) = .ok (.angle e) →
      3 < byteAt r.body 3 ∨
        (∃ x, entryAt s.settle.lib.angles e = some x ∧ x.values.length ≤ 256 * byteAt r.body 3) →
      Replies .readEntry s r ⟨s.settle, .badField, .none, [0]⟩) ∧
    (∀ e, s.Asks 7 r → s.settle.lib.named (byteAt r.body 0) (u16At r.body 1) = .ok e →
      (byteAt r.body 0 ≠ 4 → byteAt r.body 3 = 0) → (byteAt r.body 0 = 4 → byteAt r.body 3 ≤ 3) →
      s.settle.lib.beyond (byteAt r.body 3) e = false →
      Replies .readEntry s r ⟨s.settle, .done, .entry,
        putU8 (byteAt r.body 0) ++ putU16 (u16At r.body 1) ++ putU8 (s.settle.lib.inUse e)
          ++ s.settle.lib.contents (byteAt r.body 3) e⟩) ∧
    (∀ e, s.Asks 7 r → s.settle.lib.named (byteAt r.body 0) (u16At r.body 1) = .ok e →
      byteAt r.body 0 ≠ 4 → byteAt r.body 3 ≠ 0 →
      Replies .readEntry s r ⟨s.settle, .badField, .none, [0]⟩) ∧
    (s.Asks 7 r → 5 ≤ byteAt r.body 0 → Replies .readEntry s r ⟨s.settle, .badField, .none, [0]⟩)

/-- R31: a table write to an entry in use is refused IN_USE without the force mark, and not in use it is done
with stopped-station count 0. R37, R38, R40, R42 to R44, R46: LOAD_VARIANT, LOAD_RECIPE, LOAD_LIMITS, the
first part of a LOAD_ANGLE and DELETE_ENTRY whose own checks are passed are such writes of the entry they
name, in use or not, on the state that the steps due before them leave (log entry 1). R32, R56: after a forced
write has handled its users, in states where stations keep in step, no station uses the entry any more, and
where the in-use counts are those of the users the entry's is 0. The driving users are in STOPPING CONTROLLED,
TABLE_REPLACED, with stop timer 0, empty chain and no variant use, and their number is the count; a user
already in STOPPING loses its variant use alone and keeps stop kind, reason and timer; the stations that were
no users are untouched. R76, R150: where records and stations agree, the segment in progress of each station
stopped ends ABANDONED, and its leak activity vents, ABORTED, as `Bench.TestEnded` spells (log entries 9, 16,
24, 37). -/
def Obligations.ForcedWriteStopsEveryUser : Prop :=
  (∀ (b : Bench) (k : Nat),
    (b.uses (.variant k) = true ↔ b.st.sc.variantUse = true ∧ b.st.sc.variantSlot = some k) ∧
    (b.uses (.recipe k) = true ↔ k ∈ b.st.sc.chain.map ChainEntry.recipe) ∧
    (b.uses (.limits k) = true ↔ ∃ p, b.st.point = some p ∧ p.limitSet = k) ∧
    (b.uses (.angle k) = true ↔ b.st.point ≠ none ∧ b.setup.angleTable = k)) ∧
  (∀ (e : Entry) (c : ReplyCode) (w : Library → Library) (s : State),
    (s.lib.inUse e ≠ 0 → s.write e false c w = ⟨s, .inUse, .none, [0]⟩) ∧
    (s.lib.inUse e ≠ 0 → s.write e true c w =
      ⟨{ (forceUsers e s).1 with lib := w (forceUsers e s).1.lib }, c, .none,
        putU8 (forceUsers e s).2⟩) ∧
    ∀ force, s.lib.inUse e = 0 → s.write e force c w = ⟨{ s with lib := w s.lib }, c, .none, [0]⟩) ∧
  (∀ (s : State) (r : Request),
    (∀ k, s.Asks 2 r → u16At r.body 0 ≠ 0 → byteAt r.body 3 ≤ 47 → 100 ≤ u32At r.body 4 →
      u32At r.body 4 ≤ 200000 → k ≤ 63 →
      (s.settle.lib.slotOf (u16At r.body 0) = some k ∧ (byteAt r.body 2 = 255 ∨ byteAt r.body 2 = k)) ∨
      (s.settle.lib.slotOf (u16At r.body 0) = none ∧ byteAt r.body 2 = k) →
      Replies .loadVariant s r (s.settle.write (.variant k) r.force .done fun l => { l with
        variants := l.variants.set k (some
          { code := u16At r.body 0, recipe := byteAt r.body 3, volume := u32At r.body 4,
            leakLimit := u16At r.body 8, inUse := 0 }) })) ∧
    (∀ gs stop, s.Asks 3 r → 1 ≤ byteAt r.body 2 → byteAt r.body 2 ≤ 32 → byteAt r.body 0 ≤ 47 →
      byteAt r.body 1 = (if stop = true then 1 else 0) →
      segmentsAt r.body (byteAt r.body 2) 3 = some gs → endsWell gs = true →
      Replies .loadRecipe s r (s.settle.write (.recipe (byteAt r.body 0)) r.force .done fun l => { l with
        recipes := l.recipes.set (byteAt r.body 0)
          (some { stopOnFail := stop, segments := gs, inUse := 0 }) })) ∧
    (s.Asks 4 r → 1 ≤ byteAt r.body 13 → byteAt r.body 13 ≤ 8 → byteAt r.body 0 ≤ 31 →
      u32At r.body 1 < u32At r.body 5 → u32At r.body 5 < u32At r.body 9 → u32At r.body 9 ≤ 1000000 →
      (∀ o ∈ orderLinesAt r.body, 1 ≤ o.order ∧ o.order ≤ 511) →
      ((orderLinesAt r.body).map OrderLine.order).Nodup →
      Replies .loadLimits s r (s.settle.write (.limits (byteAt r.body 0)) r.force .done fun l => { l with
        limits := l.limits.set (byteAt r.body 0) (some
          { edge1 := u32At r.body 1, edge2 := u32At r.body 5, edge3 := u32At r.body 9,
            lines := orderLinesAt r.body, inUse := 0 }) })) ∧
    (s.Asks 5 r → 1 ≤ u16At r.body 5 → u16At r.body 5 ≤ 256 → byteAt r.body 0 ≤ 3 →
      u16At r.body 1 % 4 = 0 → 16 ≤ u16At r.body 1 → u16At r.body 1 ≤ 1024 → u16At r.body 3 = 0 →
      u16At r.body 5 ≤ u16At r.body 1 →
      let xs := angleValuesAt r.body
      Replies .loadAngle s r (s.settle.write (.angle (byteAt r.body 0)) r.force
        (if ∃ x ∈ xs, x = -32768 then .clamped else .done) fun l => { l with
          angles := l.angles.set (byteAt r.body 0) (some
            { state := if xs.length = u16At r.body 1 then .present else .loading, e := u16At r.body 1,
              values := xs.map fun x => if x = -32768 then -32767 else x, inUse := 0 }) })) ∧
    ∀ e, s.Asks 6 r → s.settle.lib.named (byteAt r.body 0) (u16At r.body 1) = .ok e →
      Replies .deleteEntry s r (s.settle.write e r.force .done fun l => l.delete e)) ∧
  ∀ (e : Entry) (s : State), s.InStep →
    (s.RecipeCounts → s.UseCounts → (forceUsers e s).1.lib.inUse e = 0) ∧
    (∀ i, ((forceUsers e s).1.bench i).uses e = false) ∧
    (∀ i, (s.bench i).uses e = false →
      (forceUsers e s).1.stations.get i = s.stations.get i) ∧
    (∀ i, (s.bench i).uses e = true → (s.stations.get i).sc.state.driving = true →
      ((forceUsers e s).1.stations.get i).sc.state = .stopping ∧
      ((forceUsers e s).1.stations.get i).sc.stopKind = some .controlled ∧
      ((forceUsers e s).1.stations.get i).sc.stopReason = some .tableReplaced ∧
      ((forceUsers e s).1.stations.get i).sc.stopTimer = 0 ∧
      ((forceUsers e s).1.stations.get i).sc.chain = [] ∧
      ((forceUsers e s).1.stations.get i).sc.variantUse = false) ∧
    (∀ i, (s.bench i).uses e = true → (s.stations.get i).sc.state.driving = false →
      (forceUsers e s).1.stations.get i = { s.stations.get i with
        sc := { (s.stations.get i).sc with variantUse := false } }) ∧
    (s.RecordsAgree → ∀ i, (s.bench i).uses e = true → (s.stations.get i).sc.state.driving = true →
      (s.bench i).TestEnded ((forceUsers e s).1.bench i)) ∧
    (forceUsers e s).2 = (allStations.filter fun i =>
      (s.bench i).uses e && (s.stations.get i).sc.state.driving).length ∧
    (forceUsers e s).1.lineStop = s.lineStop

/-- R29, R30, R48, R103, R174: a SET_STATION of good fields writes each marked field, clamped into its range,
keeps the others, and is CLAMPED when a marked value lay outside its range; run-bound fields are refused
STATION_BUSY while the station is not IDLE. A marked vibration head makes the last angle none, whatever value
it carries (log entry 28), a changed reject mode resets the REJECT output; nothing but the steps due before it
changes besides (log entry 1). A station outside 0-3, a mark that names no field and a choice outside its set,
a head node above 30, a channel, an angle table above 3 or a reject mode, are refused BAD_FIELD. -/
def Obligations.SetupIsWritten : Prop :=
  (∀ (mask : Nat) (body : List Byte), setupChoiceBad mask body = true ↔
    (mask.testBit 0 = true ∧ 30 < byteAt body 5) ∨ (mask.testBit 1 = true ∧ 30 < byteAt body 6) ∨
    (mask.testBit 2 = true ∧ 30 < byteAt body 7) ∨ (mask.testBit 3 = true ∧ 1 < byteAt body 8) ∨
    (mask.testBit 4 = true ∧ 3 < byteAt body 9) ∨ (mask.testBit 13 = true ∧ 1 < byteAt body 42)) ∧
  (∀ top : Nat, (setupNumerics top).map (fun f => (f.bit, f.lo, f.hi, f.off)) =
    [(5, 0, min 1000000 top, 10), (6, 0, 1000000, 14), (7, 0, 2000000, 18), (8, 0, 2000000, 22),
      (9, 2, 50, 26), (10, 1, 100000, 30), (11, 1, 10000000, 34), (12, 0, 100000, 38), (14, 1, 250, 43),
      (15, 0, 250, 47)]) ∧
  (∀ (s : State) (r : Request) (i : StNo), s.Asks 8 r → byteAt r.body 0 = i.val →
    u32At r.body 1 < 65536 → setupChoiceBad (u32At r.body 1) r.body = false →
    let old := s.settle.setups.get i
    let new (bit n o : Nat) := if (u32At r.body 1).testBit bit then n else o
    ((u32At r.body 1 % 8192 = 0 ∨ (s.settle.stations.get i).sc.state = .idle) → ∃ u c,
      Replies .setStation s r ⟨u, c, .none, [0]⟩ ∧
      (c = if ∃ f ∈ setupNumerics s.settle.cell.absMaxSpeed, (u32At r.body 1).testBit f.bit = true ∧
          ¬ (f.lo ≤ u32At r.body f.off ∧ u32At r.body f.off ≤ f.hi) then .clamped else .done) ∧
      u.setups.get i =
        { driveHead := new 0 (byteAt r.body 5) old.driveHead
          processHead := new 1 (byteAt r.body 6) old.processHead
          vibrationHead := new 2 (byteAt r.body 7) old.vibrationHead
          channel := if (u32At r.body 1).testBit 3
            then (if byteAt r.body 8 = 0 then .a else .b) else old.channel
          angleTable := new 4 (byteAt r.body 9) old.angleTable
          maxSpeed := new 5 (min (min 1000000 s.settle.cell.absMaxSpeed) (u32At r.body 10)) old.maxSpeed
          tripSpeed := new 6 (min 1000000 (u32At r.body 14)) old.tripSpeed
          tripTorque := new 7 (min 2000000 (u32At r.body 18)) old.tripTorque
          maxTorque := new 8 (min 2000000 (u32At r.body 22)) old.maxTorque
          feedbackTimeout := new 9 (max 2 (min 50 (u32At r.body 26))) old.feedbackTimeout
          stopRate := new 10 (max 1 (min 100000 (u32At r.body 30))) old.stopRate
          stopTimeout := new 11 (max 1 (min 10000000 (u32At r.body 34))) old.stopTimeout
          zeroBand := new 12 (min 100000 (u32At r.body 38)) old.zeroBand
          rejectMode := if (u32At r.body 1).testBit 13
            then (if byteAt r.body 42 = 0 then .pulse else .catch) else old.rejectMode
          width := new 14 (max 1 (min 250 (u32At r.body 43))) old.width
          recovery := new 15 (min 250 (u32At r.body 47)) old.recovery } ∧
      u = { s.settle with
        setups := s.settle.setups.set i (u.setups.get i)
        stations := s.settle.stations.set i
          { s.settle.stations.get i with
            aw := if (u32At r.body 1).testBit 2
              then { (s.settle.stations.get i).aw with lastAngle := none }
              else (s.settle.stations.get i).aw
            ou := if (u.setups.get i).rejectMode = old.rejectMode
              then (s.settle.stations.get i).ou
              else { (s.settle.stations.get i).ou with
                reject := .ready, pulseTimer := 0, recoveryTimer := 0, pending := 0 } } }) ∧
    (u32At r.body 1 % 8192 ≠ 0 → (s.settle.stations.get i).sc.state ≠ .idle →
      Replies .setStation s r ⟨s.settle, .stationBusy, .none, [0]⟩)) ∧
  ∀ (s : State) (r : Request), s.Asks 8 r →
    4 ≤ byteAt r.body 0 ∨ 65536 ≤ u32At r.body 1 ∨ setupChoiceBad (u32At r.body 1) r.body = true →
    Replies .setStation s r ⟨s.settle, .badField, .none, [0]⟩

/-- R29, R30, R49, R50, R51: SET_CELL writes the marked fields clamped into their ranges, refuses the absolute
max speed while a station is not IDLE, and touches no other setting; READ_CELL answers the settings as held,
READ_STATION the 16 fields of the setup of its station in the order of 3.7, refusing one outside 0-3. Nothing
but the steps due before them changes besides (log entry 1). -/
def Obligations.CellIsWrittenAndSettingsAreRead : Prop :=
  (∀ u : Setup, u.bytes = putU8 u.driveHead ++ putU8 u.processHead ++ putU8 u.vibrationHead ++
    putU8 (match u.channel with
      | .a => 0
      | .b => 1) ++ putU8 u.angleTable ++ putU32 u.maxSpeed ++ putU32 u.tripSpeed ++ putU32 u.tripTorque ++
    putU32 u.maxTorque ++ putU32 u.feedbackTimeout ++ putU32 u.stopRate ++ putU32 u.stopTimeout ++
    putU32 u.zeroBand ++ putU8 (match u.rejectMode with
      | .pulse => 0
      | .catch => 1) ++ putU32 u.width ++ putU32 u.recovery) ∧
  (∀ (mask : Nat) (body : List Byte), badChoice mask body 1 5 30 = true ↔
    mask.testBit 1 = true ∧ 30 < byteAt body 5) ∧
  (cellNumerics.map (fun f => (f.bit, f.lo, f.hi, f.off)) =
    [(0, 50000, 110000, 1), (2, 0, 1000000, 6), (3, 1, 600000, 10), (4, 0, 1000000, 14)]) ∧
  ∀ (s : State) (r : Request),
    (s.Asks 10 r → byteAt r.body 0 < 32 → badChoice (byteAt r.body 0) r.body 1 5 30 = false →
      (byteAt r.body 0 < 16 ∨ ∀ i, (s.settle.stations.get i).sc.state = .idle) → ∃ c u,
      Replies .setCell s r ⟨{ s.settle with cell := u }, c, .none, [0]⟩ ∧
      (c = if ∃ f ∈ cellNumerics, (byteAt r.body 0).testBit f.bit = true ∧
          ¬ (f.lo ≤ u32At r.body f.off ∧ u32At r.body f.off ≤ f.hi) then .clamped else .done) ∧
      u.ambient = (if (byteAt r.body 0).testBit 0
        then max 50000 (min 110000 (u32At r.body 1)) else s.settle.cell.ambient) ∧
      u.supplyHead = (if (byteAt r.body 0).testBit 1
        then byteAt r.body 5 else s.settle.cell.supplyHead) ∧
      u.supplyThreshold = (if (byteAt r.body 0).testBit 2
        then min 1000000 (u32At r.body 6) else s.settle.cell.supplyThreshold) ∧
      u.supplyWait = (if (byteAt r.body 0).testBit 3
        then max 1 (min 600000 (u32At r.body 10)) else s.settle.cell.supplyWait) ∧
      u.absMaxSpeed = (if (byteAt r.body 0).testBit 4
        then min 1000000 (u32At r.body 14) else s.settle.cell.absMaxSpeed)) ∧
    (s.Asks 10 r → 16 ≤ byteAt r.body 0 → byteAt r.body 0 < 32 →
      badChoice (byteAt r.body 0) r.body 1 5 30 = false →
      (∃ i, (s.settle.stations.get i).sc.state ≠ .idle) →
      Replies .setCell s r ⟨s.settle, .stationBusy, .none, [0]⟩) ∧
    (s.Asks 11 r → Replies .readCell s r ⟨s.settle, .done, .cell,
      putU32 s.settle.cell.ambient ++ putU8 s.settle.cell.supplyHead
        ++ putU32 s.settle.cell.supplyThreshold ++ putU32 s.settle.cell.supplyWait
        ++ putU32 s.settle.cell.absMaxSpeed⟩) ∧
    (∀ i : StNo, s.Asks 9 r → byteAt r.body 0 = i.val →
      Replies .readStation s r ⟨s.settle, .done, .station,
        putU8 i.val ++ (s.settle.setups.get i).bytes⟩ ∧
      (putU8 i.val ++ (s.settle.setups.get i).bytes).length = 47) ∧
    (s.Asks 9 r → 4 ≤ byteAt r.body 0 →
      Replies .readStation s r ⟨s.settle, .badField, .none, [0]⟩) ∧
    (s.Asks 10 r → 32 ≤ byteAt r.body 0 ∨ badChoice (byteAt r.body 0) r.body 1 5 30 = true →
      Replies .setCell s r ⟨s.settle, .badField, .none, [0]⟩)

/-! ### Stations: requests -/

/-- R59, R60, R83, R84, R154, R155: an ADMIT that passes its eight checks opens a record in the lowest FREE
slot (log entry 11), with the id answered, the variant code and the serial carried, the top recipe, the admit
stamp, nothing else in it and no mark set; every other slot stays, the id counter stands at the new id, and
the station takes the context of the commit before it reaches segment 0: slot, top recipe, mode, PASS
deasserted, drive enabled, rest parameters. It acts on the state that the steps due before it leave (log entry
1), and a RUNAWAY that reaching segment 0 makes due is done within it (log entry 26). The other stations are
untouched by it. R182: the mode is read as its code. -/
def Obligations.AdmissionCommits : Prop :=
  (∀ su : Setup, su.heads = [su.driveHead, su.processHead, su.vibrationHead]) ∧
  ∀ (s : State) (r : Request) (i : StNo) (m : RunMode) (k : Nat) (v : Variant) (rec : Recipe) (f : Nat),
    s.Asks 13 r → byteAt r.body 0 = i.val →
    byteAt r.body 1 = (match m with
      | .hold => 0
      | .step => 1
      | .run => 2
      | .runThrough => 3) →
    1 ≤ byteAt r.body 4 → byteAt r.body 4 ≤ 20 → (s.settle.stations.get i).sc.state = .idle →
    (∀ n ∈ (s.settle.setups.get i).heads, n ≠ 0 ∧ headSynced s.settle.heads n = true) →
    s.settle.lib.slotOf (u16At r.body 2) = some k → entryAt s.settle.lib.variants k = some v →
    entryAt s.settle.lib.recipes v.recipe = some rec →
    s.settle.store.slots.findIdx? Option.isNone = some f →
    ∃ b0 b, b0 = (s.settle.bench i).enrol k v m (r.body.drop 5) ∧ b = (advance 257 0 b0).settle ∧
      Replies .admitAxle s r ⟨s.settle.putBench i b, .done, .admitted, putU16 s.settle.store.nextId⟩ ∧
      b0.st.sc = { Context.idle with
        state := .running, recordId := s.settle.store.nextId, variantSlot := some k
        stopOnFail := rec.stopOnFail, chain := [⟨v.recipe, none⟩], variantUse := true } ∧
      b0.st.mode = m ∧ b0.st.ou.pass = false ∧ b0.st.dc.enable = true ∧ b0.st.dc.setpoint = 0 ∧
      b0.st.dc.params = some ⟨0, (s.settle.setups.get i).stopRate, (s.settle.setups.get i).zeroBand, none,
        none⟩ ∧
      b0.store = { s.settle.store with
        idCounter := s.settle.store.nextId
        slots := s.settle.store.slots.set f (some
          { id := s.settle.store.nextId, station := i, code := u16At r.body 2, topRecipe := v.recipe
            serial := r.body.drop 5, admitStamp := s.settle.tb.cycle, closeStamp := none
            verdict := none, stopReason := none, segsTruncated := false, ordersTruncated := false
            defectsTruncated := false, segs := [], orders := [], defects := [], leak := none
            basis := ⟨false, false, false, false, false⟩, closed := false }) } ∧
      b0.lib = (s.settle.lib.useRecipe v.recipe).useVariant k ∧
      ∀ j, j ≠ i → (s.settle.putBench i b).stations.get j = s.settle.stations.get j

/-- R59: the refusals of ADMIT, in the order of its checks, each leaving the state as the steps due before it
left it (log entry 1). -/
def Obligations.AdmissionIsRefusedInOrder : Prop :=
  ∀ (s : State) (r : Request), s.Asks 13 r →
    (¬ (1 ≤ byteAt r.body 4 ∧ byteAt r.body 4 ≤ 20) →
      Replies .admitAxle s r ⟨s.settle, .badLength, .none, [0]⟩) ∧
    (1 ≤ byteAt r.body 4 → byteAt r.body 4 ≤ 20 →
      (4 ≤ byteAt r.body 0 ∨ 4 ≤ byteAt r.body 1 →
        Replies .admitAxle s r ⟨s.settle, .badField, .none, [0]⟩) ∧
      ∀ i : StNo, byteAt r.body 0 = i.val → byteAt r.body 1 ≤ 3 →
        ((s.settle.stations.get i).sc.state ≠ .idle →
          Replies .admitAxle s r ⟨s.settle, .stationBusy, .none, [0]⟩) ∧
        ((s.settle.stations.get i).sc.state = .idle →
          (0 ∈ (s.settle.setups.get i).heads →
            Replies .admitAxle s r ⟨s.settle, .notConfigured, .none, [0]⟩) ∧
          (0 ∉ (s.settle.setups.get i).heads →
            (s.settle.lib.slotOf (u16At r.body 2) = none →
              Replies .admitAxle s r ⟨s.settle, .noEntry, .none, [0]⟩) ∧
            ∀ k v, s.settle.lib.slotOf (u16At r.body 2) = some k →
              entryAt s.settle.lib.variants k = some v →
              (entryAt s.settle.lib.recipes v.recipe = none →
                Replies .admitAxle s r ⟨s.settle, .noEntry, .none, [0]⟩) ∧
              (entryAt s.settle.lib.recipes v.recipe ≠ none →
                ((∃ n ∈ (s.settle.setups.get i).heads, headSynced s.settle.heads n = false) →
                  Replies .admitAxle s r ⟨s.settle, .headUnsynced, .none, [0]⟩) ∧
                ((∀ n ∈ (s.settle.setups.get i).heads, headSynced s.settle.heads n = true) →
                  (∀ o ∈ s.settle.store.slots, o ≠ none) →
                  Replies .admitAxle s r ⟨s.settle, .noReportSpace, .none, [0]⟩)))))

/-- R70: SET_RUN_MODE sets the run mode of a station that is not IDLE, and nothing but the steps due before it
changes besides (log entry 1); an IDLE station refuses WRONG_STATE, a mode or station outside its set
BAD_FIELD. R182: the mode is read as its code. -/
def Obligations.RunModeIsSet : Prop :=
  ∀ (s : State) (r : Request), s.Asks 14 r →
    (∀ (i : StNo) (m : RunMode), byteAt r.body 0 = i.val →
      byteAt r.body 1 = (match m with
        | .hold => 0
        | .step => 1
        | .run => 2
        | .runThrough => 3) →
      ((s.settle.stations.get i).sc.state ≠ .idle →
        Replies .setRunMode s r ⟨{ s.settle with
          stations := s.settle.stations.set i { s.settle.stations.get i with mode := m } },
          .done, .none, [0]⟩) ∧
      ((s.settle.stations.get i).sc.state = .idle →
        Replies .setRunMode s r ⟨s.settle, .wrongState, .none, [0]⟩)) ∧
    (4 ≤ byteAt r.body 0 ∨ 4 ≤ byteAt r.body 1 →
      Replies .setRunMode s r ⟨s.settle, .badField, .none, [0]⟩)

/-- R72: RESUME of a HELD station: after PAUSE the segment at the index begins without being reached again;
for any other reason pause release is set and the index is reached. A station not HELD refuses
WRONG_STATE. It acts on the state that the steps due before it leave (log entry 1), and a RUNAWAY that it
makes due is done within it (log entry 26). -/
def Obligations.ResumeTakesUpTheTest : Prop :=
  (∀ (b : Bench) (g : Segment) (k : Nat), b.lib.segment b.topRecipe k = some g → g.body.isFlow = false →
    b.st.sc.executed < 255 → ¬ (g.pause = true ∧ b.st.mode = .run ∧ b.st.sc.pauseRelease = false) →
    advance 257 k b = Flow.run (Begun.next g
      ((b.setSc { b.st.sc with executed := b.st.sc.executed + 1 }).beginSegment g k))) ∧
  (∀ (s : State) (r : Request) (i : StNo), s.Asks 15 r → byteAt r.body 0 = i.val →
    ((s.settle.stations.get i).sc.state = .held →
      (∀ g, (s.settle.stations.get i).sc.holdReason = some .pause →
        s.settle.lib.segment (s.settle.bench i).topRecipe (s.settle.stations.get i).sc.index = some g →
        Replies .resume s r ⟨s.settle.putBench i
          (Flow.run (Begun.next g ((s.settle.bench i).beginSegment g
            (s.settle.stations.get i).sc.index))).settle, .done, .none, [0]⟩) ∧
      ((s.settle.stations.get i).sc.holdReason ≠ some .pause →
        Replies .resume s r ⟨s.settle.putBench i
          (advance 257 (s.settle.stations.get i).sc.index
            ((s.settle.bench i).setSc
              { (s.settle.stations.get i).sc with pauseRelease := true })).settle,
          .done, .none, [0]⟩)) ∧
    ((s.settle.stations.get i).sc.state ≠ .held →
      Replies .resume s r ⟨s.settle, .wrongState, .none, [0]⟩)) ∧
  ∀ (s : State) (r : Request), s.Asks 15 r → 4 ≤ byteAt r.body 0 →
    Replies .resume s r ⟨s.settle, .badField, .none, [0]⟩

/-- R76, R78, R88, R98: ABORT stops a driving station CONTROLLED, OPERATOR, with stop timer 0 and empty chain;
turns a stop to COAST with the drive off and reason and timer kept; is refused WRONG_STATE when IDLE. R150: at
the entry the segment in progress ends ABANDONED, and the leak activity vents, ABORTED, as `Bench.TestEnded`
spells (log entries 9, 16, 24, 37). It acts on the state that the steps due before it leave (log entry 1). -/
def Obligations.AbortStopsTheStation : Prop :=
  (∀ x : StState, x.driving = true ↔ x = .running ∨ x = .held ∨ x = .finishing) ∧
  (∀ (s : State) (r : Request) (i : StNo), s.Asks 16 r → byteAt r.body 0 = i.val →
    ((s.settle.stations.get i).sc.state.driving = true → ∃ b,
      Replies .abort s r ⟨s.settle.putBench i b, .done, .none, [0]⟩ ∧
      b.st.sc.state = .stopping ∧ b.st.sc.stopKind = some .controlled ∧
      b.st.sc.stopReason = some .operator ∧ b.st.sc.stopTimer = 0 ∧ b.st.sc.chain = [] ∧
      b.st.sc.segment = none ∧ b.st.dc.setpoint = (s.settle.stations.get i).dc.setpoint ∧
      b.st.dc.enable = true ∧ b.st.mode = (s.settle.stations.get i).mode ∧
      b.st.ou = (s.settle.stations.get i).ou ∧ b.lineStop = s.settle.lineStop ∧
      (s.settle.bench i).TestEnded b) ∧
    ((s.settle.stations.get i).sc.state = .stopping →
      Replies .abort s r ⟨{ s.settle with
        stations := s.settle.stations.set i { s.settle.stations.get i with
          sc := { (s.settle.stations.get i).sc with stopKind := some .coast }
          dc := { (s.settle.stations.get i).dc with
            enable := false, setpoint := 0, torqueLimit := 0 } } }, .done, .none, [0]⟩) ∧
    ((s.settle.stations.get i).sc.state = .idle →
      Replies .abort s r ⟨s.settle, .wrongState, .none, [0]⟩)) ∧
  ∀ (s : State) (r : Request), s.Asks 16 r → 4 ≤ byteAt r.body 0 →
    Replies .abort s r ⟨s.settle, .badField, .none, [0]⟩

/-- R164: READ_REPORT of a CLOSED record answers one chunk of its serialised form under the tag of its place.
R165: RELEASE_REPORT frees its slot and takes its id from the close-order queue, and every slot that holds
another record stays. An unknown id and an OPEN record are refused, and a chunk beyond the end. R181: the
serialised form is header, segment results, order results, defects and leak result, each list after its count,
with the lengths of 11.5; R182: its fields are sent as their codes. Nothing but the steps due before them
changes besides (log entry 1). -/
def Obligations.ReportsAreReadAndReleased : Prop :=
  [Verdict.pass, .fail, .notJudged, .faulted, .aborted].map Verdict.code = List.range 5 ∧
  [none, some StopReason.operator, some .tableReplaced, some .fault, some .safety, some .cellReset].map
    stopReasonCode = List.range 6 ∧
  [SegKind.ramp, .dwell, .listen, .leakStart, .leakWait, .call, .chain, .finish].map SegKind.code =
    [1, 2, 3, 4, 5, 6, 7, 8] ∧
  [SegOutcome.done, .failed, .notJudged, .faulted, .abandoned].map SegOutcome.code = List.range 5 ∧
  [OrderVerdict.pass, .fail, .notJudged].map OrderVerdict.code = List.range 3 ∧
  [LeakOutcome.pass, .fail, .notJudged, .aborted].map LeakOutcome.code = List.range 4 ∧
  [none, some LeakReason.airShort, some .disturbed, some .timeout, some .grossLeak, some .leakRate].map
    leakReasonCode = List.range 6 ∧
  [DefectCode.speedNotReached, .speedDeviation, .torqueLimit, .noiseOrder, .grossLeak, .leakRate,
    .leakBusy, .noiseNotJudged, .orderRange, .leakNotJudged, .ventTimeout, .stopTimeout, .noRecipe,
    .recursion, .chainDepth, .noLimits, .noAngle, .runaway, .overspeed, .overtorque,
    .feedbackLost].map DefectCode.code = (List.range 21).map (· + 1) ∧
  (∀ (slots : List (Option Record)) (id : Nat) (q : Record), findRecord slots id = some q ↔
    q.id = id ∧ ∃ k, slots[k]? = some (some q) ∧
      ∀ (j : Nat) (r : Record), j < k → slots[j]? = some (some r) → r.id ≠ id) ∧
  (∀ q : Record,
    let mark (b : Bool) (n : Nat) : Nat := if b = true then n else 0
    let header := putU16 q.id ++ putU8 q.station.val ++ putU16 q.code ++ putU8 q.topRecipe ++
      putU32 q.admitStamp.toNat ++ putU32 ((q.closeStamp.map BitVec.toNat).getD 0) ++
      putU8 ((q.verdict.map Verdict.code).getD 0) ++ putU8 (stopReasonCode q.stopReason) ++
      putU8 (mark q.segsTruncated 1 + mark q.ordersTruncated 2 + mark q.defectsTruncated 4) ++
      putU8 q.serial.length ++ q.serial
    let segs := putU8 q.segs.length ++ (q.segs.map fun x =>
      putU8 x.recipe ++ putU8 x.index ++ putU8 x.kind.code ++ putU8 x.outcome.code ++
        putU32 x.duration ++ putU32 x.maxError ++ putU32 x.maxTorque ++
        putU8 (mark x.clamped 1)).flatten
    let orders := putU8 q.orders.length ++ (q.orders.map fun x =>
      putU8 x.ordinal ++ putU16 x.order ++ putU8 (x.band.getD 255) ++ putU8 x.verdict.code ++
        putU8 x.voids ++ putU8 x.levels.length ++
        (x.levels.map fun l => putU16 l.level ++ putU8 (mark l.sat 1)).flatten).flatten
    let defects := putU8 q.defects.length ++ (q.defects.map fun d =>
      putU8 d.code.code ++ putU16 d.ordinal ++ putU8 d.count).flatten
    let leak :=
      match q.leak with
      | none => putU8 0
      | some x =>
        putU8 1 ++ putU8 x.outcome.code ++ putU8 (leakReasonCode x.reason) ++
          putU8 (mark x.fillTime.isSome 1 + mark x.bStart.isSome 2 + mark x.computed.isSome 4) ++
          (x.fillTime.map putU32).getD [] ++ (x.bStart.map putU32).getD [] ++
          (x.computed.map fun c => putU32 c.bEnd ++ putU32 c.t ++ putU16 c.rate.q ++
            putU8 (mark c.rate.rise 1 + mark c.rate.sat 2)).getD []
    q.bytes = header ++ segs ++ orders ++ defects ++ leak ∧
    header.length = 18 + q.serial.length ∧ segs.length = 1 + 17 * q.segs.length ∧
    orders.length = 1 + (q.orders.map fun x => 7 + 3 * x.levels.length).sum ∧
    defects.length = 1 + 4 * q.defects.length) ∧
  ∀ (s : State) (r : Request),
    (findRecord s.settle.store.slots (u16At r.body 0) = none →
      (s.Asks 17 r → Replies .readReport s r ⟨s.settle, .noReport, .none, [0]⟩) ∧
      (s.Asks 18 r → Replies .releaseReport s r ⟨s.settle, .noReport, .none, [0]⟩)) ∧
    ∀ rec, findRecord s.settle.store.slots (u16At r.body 0) = some rec →
      (s.Asks 17 r → rec.closed = false →
        Replies .readReport s r ⟨s.settle, .wrongState, .none, [0]⟩) ∧
      (s.Asks 17 r → rec.closed = true → rec.bytes.length ≤ 512 * byteAt r.body 2 →
        Replies .readReport s r ⟨s.settle, .badField, .none, [0]⟩) ∧
      (s.Asks 17 r → rec.closed = true → 512 * byteAt r.body 2 < rec.bytes.length →
        Replies .readReport s r ⟨s.settle, .done,
          if byteAt r.body 2 = 0 then
            (if rec.bytes.length ≤ 512 then .reportSingle else .reportFirst)
          else if rec.bytes.length ≤ 512 * (byteAt r.body 2 + 1) then .reportLast
          else .reportMiddle,
          putU16 (u16At r.body 0) ++ putU8 (byteAt r.body 2) ++ putU16 rec.bytes.length
            ++ (rec.bytes.drop (512 * byteAt r.body 2)).take 512⟩) ∧
      (s.Asks 18 r → rec.closed = false →
        Replies .releaseReport s r ⟨s.settle, .wrongState, .none, [0]⟩) ∧
      (s.Asks 18 r → rec.closed = true → ∃ t,
        Replies .releaseReport s r ⟨{ s.settle with store := t }, .done, .none, [0]⟩ ∧
        t.idCounter = s.settle.store.idCounter ∧
        t.closeQueue = s.settle.store.closeQueue.filter (fun k => decide (k ≠ u16At r.body 0)) ∧
        t.slots.length = s.settle.store.slots.length ∧
        ∀ k q, s.settle.store.At k q →
          (q.id ≠ u16At r.body 0 ∨ q.closed = false → t.At k q) ∧
          (q.id = u16At r.body 0 → q.closed = true → t.slots[k]? = some none))

/-- R173, R175: CLEAR_REJECT by reject mode; CLEAR_LINE_STOP, refused while a safety stop is in progress.
Nothing but the steps due before them changes besides (log entry 1). -/
def Obligations.OutputsAreCleared : Prop :=
  ∀ (s : State) (r : Request),
    (∀ i : StNo, s.Asks 19 r → byteAt r.body 0 = i.val →
      Replies .clearReject s r ⟨{ s.settle with
        stations := s.settle.stations.set i { s.settle.stations.get i with
          ou := if (s.settle.setups.get i).rejectMode = .catch
            then { (s.settle.stations.get i).ou with reject := .ready, pending := 0 }
            else { (s.settle.stations.get i).ou with pending := 0 } } }, .done, .none, [0]⟩) ∧
    (s.Asks 20 r → (∀ i, (s.settle.stations.get i).sc.state = .stopping →
        (s.settle.stations.get i).sc.safety = false) →
      Replies .clearLineStop s r ⟨{ s.settle with lineStop := false }, .done, .none, [0]⟩) ∧
    (s.Asks 20 r → (∃ i, (s.settle.stations.get i).sc.state = .stopping ∧
        (s.settle.stations.get i).sc.safety = true) →
      Replies .clearLineStop s r ⟨s.settle, .wrongState, .none, [0]⟩) ∧
    (s.Asks 19 r → 4 ≤ byteAt r.body 0 → Replies .clearReject s r ⟨s.settle, .badField, .none, [0]⟩)

/-- R20, R34, R35, R82, R102, R103, R133, R167, R176: CELL_RESET leaves every station IDLE in run mode HOLD
with its drive off, its PASS level deasserted, its reject state READY with timers and pending count 0, and its
angle unit INACTIVE without a last angle, LINESTOP deasserted, every head UNSYNCED without values and with its
cycle marks cleared, and keeps the timebase, the ring port, the setups, the cell settings, the contents of the
four tables, the id counter and every counter, all as the steps due before it left them (log entry 1). Where
the in-use counts are those of the users, every one is 0 after it. Where records and stations agree, every
OPEN record closes in its slot with reason CELL_RESET, in station order, and none is left; R151: the segment
in progress of each station ends ABANDONED in its record, and its leak activity vents, ABORTED, as
`Bench.TestEnded` spells (log entries 9, 16, 24, 37). REPORT_READY stands in the flags answered when a record
closed, and no other flag moves. Of the cycle marks, that the signal mark is cleared is log entry 27. -/
def Obligations.CellResetClearsTheCell : Prop :=
  ∀ (s : State) (r : Request), s.Asks 21 r → (∀ i, (s.settle.stations.get i).sc.state = .idle →
      (s.settle.stations.get i).sc = Context.idle ∧ (s.settle.stations.get i).dc.Off) → ∃ u,
    Replies .cellReset s r ⟨u, .done, .none, [0]⟩ ∧
    u.lineStop = false ∧ u.supplyOk = false ∧
    (∀ i, (u.stations.get i).sc = Context.idle ∧ (u.stations.get i).mode = .hold ∧
      (u.stations.get i).dc.Off ∧
      (u.stations.get i).ou = { (s.settle.stations.get i).ou with
        pass := false, reject := .ready, pulseTimer := 0, recoveryTimer := 0, pending := 0 } ∧
      (u.stations.get i).aw.state = .inactive ∧ (u.stations.get i).aw.lastAngle = none) ∧
    (let bare (l : Library) : Library :=
      { variants := l.variants.map (Option.map fun v => { v with inUse := 0 })
        recipes := l.recipes.map (Option.map fun v => { v with inUse := 0 })
        limits := l.limits.map (Option.map fun v => { v with inUse := 0 })
        angles := l.angles.map (Option.map fun v => { v with inUse := 0 }) }
     bare u.lib = bare s.settle.lib) ∧
    u.store.idCounter = s.settle.store.idCounter ∧
    u.heads.length = s.settle.heads.length ∧
    (∀ h ∈ u.heads, h.state = .unsynced ∧ h.expected = 0 ∧ h.run = 0 ∧ h.values = Slow.all none ∧
      h.fresh = Slow.all false ∧ h.used = 0 ∧ h.signalled = false) ∧
    u.heads.map (fun h => (h.gap, h.outOfOrder, h.resync, h.lastStamp))
      = s.settle.heads.map (fun h => (h.gap, h.outOfOrder, h.resync, h.lastStamp)) ∧
    u.tb = s.settle.tb ∧ u.rp = s.settle.rp ∧ u.setups = s.settle.setups ∧ u.cell = s.settle.cell ∧
    u.queue = s.settle.queue ∧ u.formatErrors = s.settle.formatErrors ∧
    (s.RecipeCounts → s.UseCounts → ∀ e, u.lib.inUse e = 0) ∧
    (s.RecordsAgree →
      ((∃ i, (s.settle.stations.get i).sc.state ≠ .idle) →
        u.flags = { s.settle.flags with reportReady := true }) ∧
      ((∀ i, (s.settle.stations.get i).sc.state = .idle) → u.flags = s.settle.flags) ∧
      (∀ k q, u.store.At k q → q.closed = true) ∧
      (∀ k q, s.settle.store.At k q → q.closed = true → u.store.At k q) ∧
      (∀ i, (s.settle.stations.get i).sc.state ≠ .idle → (s.settle.bench i).TestEnded (u.bench i)) ∧
      (∀ k q, s.settle.store.At k q → q.closed = false → ∃ q', u.store.At k q' ∧ q'.id = q.id ∧
        q'.stopReason = some .cellReset ∧ q'.closeStamp = some s.settle.tb.cycle ∧
        q'.verdict = some (if q.basis.fault = true ∨ q.basis.safety = true then .faulted
          else .aborted)) ∧
      u.store.closeQueue = s.settle.store.closeQueue ++
        (allStations.filter fun i => (s.settle.stations.get i).sc.state ≠ .idle).map
          fun i => (s.settle.stations.get i).sc.recordId)

/-! ### Stations: the steps that fall due -/

/-- The model's order of due steps (log entry 1): a station does the work it is given piece by piece, up to
the first step that a piece makes due; the command of a due step does that step and the work behind it; the
command of a step that is not due has no effect. R79, R80, R85, R90 to R94, R96, R101, R126: step 4 of drive
control's work raises the figures of the segment in progress (not at the event of its beginning, log entry 31)
and its deviation and torque runs, a reading without a value changing none of them, and then one step falls
due: SPEED_DEVIATION or, without one, TORQUE_LIMIT at a run of P, else the completion of the segment, else its
time limit. Of these clauses two rest on the model's choice: that with both runs at P SPEED_DEVIATION alone
falls due (log entry 20, DEDUCED) and that the figures are raised at step 4 (log entry 35, DESIGN CHOICE). The
stop test, the stop timeout and a point's time limit make theirs due. -/
def Obligations.DueStepsAreDone : Prop :=
  (∀ b : Bench,
    b.speed = (closedOf b.heads b.setup.driveHead).slots.speed ∧
    b.torque = (closedOf b.heads b.setup.driveHead).slots.torque ∧
    b.process = closedOf b.heads b.setup.processHead) ∧
  (∀ x : Reading, x.value =
    match x with
    | .fresh v => some v
    | .held v => some v
    | .noValue => none) ∧
  (∀ (s : State) (i : StNo) (b : Bench),
    s.bench i =
      { me := i, now := s.tb.cycle, heads := s.heads, supplyOk := s.supplyOk, setup := s.setups.get i
        cell := s.cell, lib := s.lib, store := s.store, flags := s.flags, lineStop := s.lineStop
        st := s.stations.get i } ∧
    s.desk i = (s.bench i).setTodo [] ∧
    s.putBench i b = { s with
      lib := b.lib, store := b.store, flags := b.flags, lineStop := b.lineStop
      stations := s.stations.set i b.st }) ∧
  (∀ (b : Bench) (g : Segment), b.st.todo = [] → b.st.sc.state = .running → b.st.sc.segment = some g →
    let c := b.work .supervise
    let d := b.st.dc
    let error := b.speed.value.map fun v => v - d.setpoint
    let torque := b.torque.value
    let persist := d.params.bind Params.persist
    let limit := d.params.bind Params.torqueCheck
    let band := (d.params.map Params.band).getD 0
    let deviates := d.reached = true ∧ ∃ p, persist = some p ∧ p ≤ c.st.dc.devRun
    let strained := d.reached = true ∧ ∃ p m, persist = some p ∧ limit = some m ∧ p ≤ c.st.dc.torqueRun
    c.st.sc = b.st.sc ∧ c.store = b.store ∧
    (∀ v, torque = some v → 1 ≤ b.st.sc.segTimer →
      c.st.dc.maxTorque = max d.maxTorque (min v.natAbs 4294967295)) ∧
    (torque = none ∨ b.st.sc.segTimer = 0 → c.st.dc.maxTorque = d.maxTorque) ∧
    (∀ e, d.reached = true → error = some e → 1 ≤ b.st.sc.segTimer →
      c.st.dc.maxError = max d.maxError (min e.natAbs 4294967295)) ∧
    (d.reached = false ∨ error = none ∨ b.st.sc.segTimer = 0 → c.st.dc.maxError = d.maxError) ∧
    (∀ e p, d.reached = true → persist = some p → error = some e →
      c.st.dc.devRun = if band < e.natAbs then min 255 (d.devRun + 1) else 0) ∧
    (d.reached = false ∨ persist = none ∨ error = none → c.st.dc.devRun = d.devRun) ∧
    (∀ v p m, d.reached = true → persist = some p → limit = some m → torque = some v →
      c.st.dc.torqueRun = if m < v.natAbs then min 255 (d.torqueRun + 1) else 0) ∧
    (d.reached = false ∨ persist = none ∨ limit = none ∨ torque = none →
      c.st.dc.torqueRun = d.torqueRun) ∧
    (deviates → c.st.todo = [.due .speedDeviation]) ∧
    (¬ deviates → strained → c.st.todo = [.due .torqueLimit]) ∧
    (¬ deviates → ¬ strained →
      (∀ m tc most, g.body = .ramp m tc most → c.st.todo =
        if d.steady = true ∧ 1 ≤ b.st.sc.segTimer then [.due .rampDone]
        else if most ≤ b.st.sc.segTimer then [.due .speedNotReached] else []) ∧
      (∀ m tc duration, g.body = .dwell m tc duration → c.st.todo =
        if d.reached = true ∧ duration ≤ d.dwell then [.due .dwellDone] else []) ∧
      (∀ most, g.body = .leakWait most → c.st.todo =
        if most ≤ b.st.sc.segTimer then [.due .leakWaitTimeout] else []) ∧
      (g.body.kind = .listen → c.st.todo = []))) ∧
  (∀ b : Bench, b.st.todo = [] →
    let standing := (∃ v, b.speed = .fresh v ∧ v.natAbs ≤ b.setup.zeroBand) ∧ b.st.dc.setpoint = 0 ∧
      ∀ a, b.st.lu = some a → a.phase = .done
    (b.st.sc.state ≠ .running → b.work .supervise = b) ∧
    (b.st.sc.state = .stopping → standing →
      b.work .stopTest = b.setTodo [.due .stopComplete] ∧
      (b.setup.stopTimeout ≤ b.st.sc.stopTimer →
        b.work .stopLimit = b.setTodo [.due .stopComplete])) ∧
    (¬ (b.st.sc.state = .stopping ∧ standing) → b.work .stopTest = b) ∧
    (b.st.sc.state = .stopping → ¬ standing → b.setup.stopTimeout ≤ b.st.sc.stopTimer →
      b.work .stopLimit = b.setTodo [.due .stopTimeout]) ∧
    (b.st.sc.state ≠ .stopping ∨ b.st.sc.stopTimer < b.setup.stopTimeout → b.work .stopLimit = b) ∧
    (∀ g p, b.st.sc.state = .running → b.st.sc.segment = some g → g.body.kind = .listen →
      b.st.point = some p → b.work .listenLimit =
        if p.timeLimit ≤ b.st.sc.segTimer then b.setTodo [.due .listenTimeLimit] else b)) ∧
  (∀ (s : State) (i : StNo) (ts : List Todo),
    s.give i ts = s.putBench i (runWork ((s.stations.get i).todo ++ ts) (s.bench i))) ∧
  (∀ (b : Bench) (rest : List Todo),
    runWork [] b = b.setTodo [] ∧ (∀ e, runWork (.due e :: rest) b = b.setTodo (.due e :: rest)) ∧
    ∀ t, (∀ e, t ≠ .due e) →
      let c := (b.setTodo []).work t
      (c.st.todo = [] → runWork (t :: rest) b = runWork rest c) ∧
      (c.st.todo ≠ [] → runWork (t :: rest) b = c.setTodo (c.st.todo ++ rest))) ∧
  (∀ (s : State) (i : StNo) (rest : List Todo) (b : Bench),
    (b.st.todo = [] → s.resumeWith i rest b = (s.putBench i (runWork rest b)).pump) ∧
    (b.st.todo ≠ [] → s.resumeWith i rest b = (s.putBench i (b.setTodo (b.st.todo ++ rest))).pump)) ∧
  (∀ (s : State) (i : StNo) (e : StEvent) (rest : List Todo), s.Due i e rest →
    LeavesBench (stationCommand i e) s i rest ((s.desk i).perform e)) ∧
  ∀ (s : State) (i : StNo) (e : StEvent),
    (∀ e' rest, s.Due i e' rest → stationCommand i e' ≠ stationCommand i e) →
    exec (stationCommand i e) s = .next s

/-- R63 to R66, R93, R94: a RAMP or DWELL that is done appends its segment result DONE with the figures of the
segment, and the run mode decides what follows. R54, R66, R104, R114, R118: the end of a LISTEN, with whatever
outcome, makes the angle unit INACTIVE without parameters, abandons a window in progress with its accumulators
dropped, and lets the in-use counts of limit set and angle table fall. R84, R88: a hold freezes the target at
the setpoint, keeps the drive enabled and the index to be taken up. R61, R63, R64, R67 to R69, R74, R84, R95,
R96, R104, R116, R117, R134: a segment reached counts, and the 256th makes RUNAWAY due, a step of its own (log
entry 1). CALL, CHAIN and END test their faults, move the chain and the recipe counts, and reach the next
segment; an END that empties the chain closes the record, or waits in FINISHING for the leak activity. A
working segment is held by PAUSE in run mode RUN, or begins, torque limit and enable following at once (log
entry 18): a LISTEN with its faults, its uses, its listening parameters and its point, finished at once where
every line lies out of range; a LEAK_START with a new activity, marked as started in this event (log entry 9),
or FAILED LEAK_BUSY; a LEAK_WAIT with nothing to wait for is DONE. -/
def Obligations.DoneSegmentsAreRecorded : Prop :=
  (∀ b : Bench, b.topRecipe = ((b.st.sc.chain.map ChainEntry.recipe).head?).getD 0) ∧
  (∀ (l : Library) (r k : Nat),
    l.segment r k = (entryAt l.recipes r).bind (fun e => e.segments[k]?) ∧
    l.stopOnFail r = ((entryAt l.recipes r).map Recipe.stopOnFail).getD false) ∧
  (∀ (s : State) (i : StNo) (rest : List Todo) (g : Segment), s.Runs i g →
    (s.Due i .rampDone rest → g.body.kind = .ramp →
      LeavesBench (.rampDone i) s i rest ((s.desk i).segmentOver g .done)) ∧
    (s.Due i .dwellDone rest → g.body.kind = .dwell →
      LeavesBench (.dwellDone i) s i rest ((s.desk i).segmentOver g .done)) ∧
    ∀ o, ((s.desk i).finishSegment g o).store =
        s.store.onOpen (s.stations.get i).sc.recordId (Record.addSegment
          { recipe := (s.bench i).topRecipe, index := (s.stations.get i).sc.index, kind := g.body.kind
            outcome := o, duration := (s.stations.get i).sc.segTimer
            maxError := (s.stations.get i).dc.maxError, maxTorque := (s.stations.get i).dc.maxTorque
            clamped := (s.stations.get i).dc.clamped }) ∧
      ((s.desk i).finishSegment g o).st.sc = { (s.stations.get i).sc with segment := none } ∧
      ((s.desk i).finishSegment g o).st.point = none ∧
      ((s.stations.get i).point = none →
        ((s.desk i).finishSegment g o).st.aw = (s.stations.get i).aw ∧
        ((s.desk i).finishSegment g o).lib = s.lib) ∧
      ∀ p, (s.stations.get i).point = some p →
        ((s.desk i).finishSegment g o).st.aw = { (s.stations.get i).aw with
          state := .inactive
          params := none
          window :=
            if (s.stations.get i).aw.state = .collecting
            then (s.stations.get i).aw.window.map fun w => { w with state := .abandoned, accums := [] }
            else (s.stations.get i).aw.window } ∧
        ∀ e, ((s.desk i).finishSegment g o).lib.inUse e =
          if e = .limits p.limitSet ∨ e = .angle (s.setups.get i).angleTable then s.lib.inUse e - 1
          else s.lib.inUse e) ∧
  (∀ (b : Bench) (g : Segment) (k : Nat),
    let d := b.st.dc
    let u := b.takeUp g k
    u.st.sc = { b.st.sc with
      state := .running, holdReason := none, index := k, segTimer := 0, pauseRelease := false
      segment := some g } ∧
    u.store = b.store ∧ u.lib = b.lib ∧ u.st.lu = b.st.lu ∧ u.st.dc.setpoint = d.setpoint ∧
    u.st.dc.enable = true ∧ u.st.dc.devRun = 0 ∧ u.st.dc.torqueRun = 0 ∧ u.st.dc.maxError = 0 ∧
    u.st.dc.maxTorque = 0 ∧ u.st.dc.clamped = false ∧
    (∀ m tc x, g.body = .ramp m tc x ∨ g.body = .dwell m tc x →
      u.st.dc.params = some ⟨m.target, m.rate, m.band, some m.persist, some tc⟩ ∧
      u.st.dc.torqueLimit = min tc b.setup.maxTorque) ∧
    (∀ m x n r a, g.body = .listen m x n r a →
      u.st.dc.params = some ⟨m.target, m.rate, m.band, some m.persist, none⟩ ∧
      u.st.dc.torqueLimit = b.setup.maxTorque) ∧
    (g.body.kind = .ramp ∨ g.body.kind = .dwell ∨ g.body.kind = .listen →
      u.st.dc.reached = false ∧ u.st.dc.dwell = 0 ∧ u.st.dc.steady = false) ∧
    (g.body.kind = .leakStart ∨ g.body.kind = .leakWait →
      u.st.dc.params = d.params ∧ u.st.dc.reached = d.reached ∧ u.st.dc.dwell = d.dwell ∧
      u.st.dc.steady = d.steady)) ∧
  (∀ (b : Bench) (k : Nat),
    let sc := { b.st.sc with executed := min 256 (b.st.sc.executed + 1) }
    let c := b.setSc sc
    let busy := ∃ a, b.st.lu = some a ∧ a.phase ≠ .done
    (255 ≤ b.st.sc.executed → advance 257 k b = c.setTodo (.due .runaway :: b.st.todo)) ∧
    (b.st.sc.executed < 255 → ∀ g, b.lib.segment b.topRecipe k = some g →
      (∀ r, g.body = .call r →
        (entryAt b.lib.recipes r = none → advance 257 k b = c.faultTest .noRecipe) ∧
        (∀ e, entryAt b.lib.recipes r = some e →
          (r ∈ sc.chain.map ChainEntry.recipe → advance 257 k b = c.faultTest .recursion) ∧
          (r ∉ sc.chain.map ChainEntry.recipe → 4 ≤ sc.chain.length →
            advance 257 k b = c.faultTest .chainDepth) ∧
          (r ∉ sc.chain.map ChainEntry.recipe → sc.chain.length < 4 →
            advance 257 k b = advance 257 0 ((c.setLib (b.lib.useRecipe r)).setSc { sc with
              chain := ⟨r, some (k + 1)⟩ :: sc.chain, stopOnFail := e.stopOnFail })))) ∧
      (∀ r, g.body = .chain r →
        (entryAt b.lib.recipes r = none → advance 257 k b = c.faultTest .noRecipe) ∧
        (∀ e top below, entryAt b.lib.recipes r = some e → sc.chain = top :: below →
          (r ∈ below.map ChainEntry.recipe → advance 257 k b = c.faultTest .recursion) ∧
          (r ∉ below.map ChainEntry.recipe →
            advance 257 k b = advance 257 0 ((c.setLib (if r = top.recipe then b.lib
              else (b.lib.dropRecipe top.recipe).useRecipe r)).setSc { sc with
                chain := ⟨r, top.ret⟩ :: below, stopOnFail := e.stopOnFail })))) ∧
      (g.body = .finish →
        (∀ top next below n, sc.chain = top :: next :: below → top.ret = some n →
          advance 257 k b = advance 257 n ((c.setLib (b.lib.dropRecipe top.recipe)).setSc { sc with
            chain := next :: below, stopOnFail := b.lib.stopOnFail next.recipe })) ∧
        (∀ top, sc.chain = [top] →
          let e := (c.setLib (b.lib.dropRecipe top.recipe)).setSc { sc with chain := [] }
          (¬ busy → advance 257 k b = e.closeRecord false) ∧
          (busy →
            (advance 257 k b).st.sc =
              { sc with chain := [], state := .finishing, holdReason := none } ∧
            (advance 257 k b).st.dc.setpoint = b.st.dc.setpoint ∧
            (advance 257 k b).st.dc.params =
              b.st.dc.params.map (fun p => { p with target := b.st.dc.setpoint }) ∧
            (advance 257 k b).store = b.store ∧ (advance 257 k b).lib = e.lib ∧
            (advance 257 k b).st.lu = b.st.lu))) ∧
      (g.body.isFlow = false → g.pause = true → b.st.mode = .run → sc.pauseRelease = false →
        advance 257 k b = c.holdAt .pause k) ∧
      (g.body.isFlow = false → ¬ (g.pause = true ∧ b.st.mode = .run ∧ sc.pauseRelease = false) →
        let u := c.takeUp g k
        (g.body.kind = .ramp ∨ g.body.kind = .dwell → advance 257 k b = u) ∧
        (∀ x, g.body = .leakWait x →
          (busy → advance 257 k b = u) ∧ (¬ busy → advance 257 k b = u.segmentOver g .done)) ∧
        (∀ p, g.body = .leakStart p →
          (busy → advance 257 k b = (u.recordDefect .leakBusy).segmentOver g .failed) ∧
          (¬ busy →
            let v := sc.variantSlot.bind fun n => entryAt b.lib.variants n
            let a : Activity :=
              { phase := .fillWait, owner := sc.recordId, params := p
                volume := (v.map Variant.volume).getD 0, leakLimit := (v.map Variant.leakLimit).getD 0
                ambient := none, clock := 0, timer := 0, fillTime := none, measureEntry := none
                block := none, bStart := none, computed := none, result := none, reason := none
                mark := .started }
            advance 257 k b = Bench.segmentOver g .done { u.setLu (some a) with
              flags := if b.supplyOk = true then b.flags
                else { b.flags with airShort := true } })) ∧
        (∀ m limit n r most, g.body = .listen m limit n r most →
          let faulted : Bench := c.setStore (b.store.onOpen sc.recordId (Record.addSegment
            ⟨b.topRecipe, k, .listen, .faulted, 0, 0, 0, false⟩))
          (entryAt b.lib.limits n = none → advance 257 k b = faulted.faultTest .noLimits) ∧
          (∀ ls, entryAt b.lib.limits n = some ls →
            ((∀ e, entryAt b.lib.angles b.setup.angleTable = some e →
                e.state ≠ .present ∨ 16384 < e.e * r) →
              advance 257 k b = faulted.faultTest .noAngle) ∧
            ∀ e, entryAt b.lib.angles b.setup.angleTable = some e → e.state = .present →
              e.e * r ≤ 16384 →
              let p : Point :=
                { limitSet := n, edge1 := ls.edge1, edge2 := ls.edge2, edge3 := ls.edge3
                  maxAttempts := most, timeLimit := limit, ordinal := sc.executed
                  lines := ls.lines.map fun o =>
                    ⟨o.order, o.limits, decide (2 * o.order < e.e), 0, 0,
                      if 2 * o.order < e.e then .undecided else .notJudged, [], none⟩ }
              let x := ((u.setLib (b.lib.useListen n b.setup.angleTable)).setAw { b.st.aw with
                state := .seeking, attempts := 0, voids := 0
                params := some ⟨e.e, r, b.setup.channel, e.values⟩ }).setPoint (some p)
              ((∃ o ∈ ls.lines, 2 * o.order < e.e) → advance 257 k b = x) ∧
              ((∀ o ∈ ls.lines, e.e ≤ 2 * o.order) → ls.lines ≠ [] →
                advance 257 k b = x.writePoint.segmentOver g .notJudged)))))) ∧
  ∀ (b : Bench) (why : HoldReason) (k : Nat),
    (b.holdAt why k).st.sc = { b.st.sc with state := .held, holdReason := some why, index := k } ∧
    (b.holdAt why k).st.dc.params = b.st.dc.params.map (fun p => { p with target := b.st.dc.setpoint }) ∧
    (b.holdAt why k).st.dc.setpoint = b.st.dc.setpoint ∧ (b.holdAt why k).st.dc.enable = true ∧
    (b.holdAt why k).store = b.store ∧ (b.holdAt why k).lib = b.lib

/-- R91, R92, R93, R96, R129, R149: the check failures of drive control record their defects and end the
segment FAILED; SPEED_DEVIATION records TORQUE_LIMIT too, after its own defect, where the torque run has
reached P at the same event (log entry 20); a LISTEN that deviates writes its point's results after the
defects. A LEAK_WAIT timeout fixes a leak result not yet fixed NOT_JUDGED, TIMEOUT (its fill time in FILL is
that of log entries 16 and 37), and ends its segment NOT_JUDGED. -/
def Obligations.FailedChecksEndTheSegment : Prop :=
  (∀ (b : Bench) (c : DefectCode), b.recordDefect c = b.setStore
    (b.store.onOpen b.st.sc.recordId (Record.addDefect c b.st.sc.executed))) ∧
  (∀ d : Drive, d.overTorque = true ↔ d.reached = true ∧ ∃ p m, d.params.bind Params.persist = some p ∧
    d.params.bind Params.torqueCheck = some m ∧ p ≤ d.torqueRun) ∧
  ∀ (s : State) (i : StNo) (rest : List Todo) (g : Segment), s.Runs i g →
    (s.Due i .speedNotReached rest → g.body.kind = .ramp →
      LeavesBench (.speedNotReached i) s i rest
        (((s.desk i).recordDefect .speedNotReached).segmentOver g .failed)) ∧
    (s.Due i .torqueLimit rest →
      LeavesBench (.torqueLimit i) s i rest
        (((s.desk i).recordDefect .torqueLimit).segmentOver g .failed)) ∧
    (s.Due i .speedDeviation rest →
      LeavesBench (.speedDeviation i) s i rest
        ((if (s.stations.get i).dc.overTorque
          then ((s.desk i).recordDefect .speedDeviation).recordDefect .torqueLimit
          else (s.desk i).recordDefect .speedDeviation).writePoint.segmentOver g .failed)) ∧
    (s.Due i .leakWaitTimeout rest → g.body.kind = .leakWait →
      LeavesBench (.leakWaitTimeout i) s i rest
        (((s.desk i).fixLeak .notJudged (some .timeout) (some .leakNotJudged)).segmentOver g
          .notJudged))

/-- R62, R81, R98, R100, R175: a FEEDBACK_LOST trip leaves the station in STOPPING, COAST, with the safety
mark, its drive off, the SAFETY mark of its record set, the flag SAFETY and LINESTOP set; a stop in progress
keeps its reason. R61, R64, R76: RUNAWAY sets the FAULT mark of the record and stops the station CONTROLLED,
FAULT, with an empty chain; so do NO_RECIPE, RECURSION, CHAIN_DEPTH, NO_LIMITS and NO_ANGLE, and each records
its defect. R62, R81: each defect joins the record as `Record.addDefect` has it, with the executed-segment
count as its ordinal. R150: each entry into STOPPING ends the segment in progress ABANDONED and the leak
activity vents, ABORTED, as `Bench.TestEnded` spells (log entries 9, 16, 24, 37). R85, R99, R100: step 1 of
drive control's work sets the latch of OVERSPEED and of OVERTORQUE by a fresh reading beyond its limit, trips
at a condition whose latch was clear, and counts the feedback run by the enable it found (log entry 19);
FEEDBACK_LOST falls due at the timeout with its latch clear (log entry 1). -/
def Obligations.TripsAndFaultsStopTheStation : Prop :=
  (∀ b : Bench, b.st.sc.state = .idle → b.work .trips = b) ∧
  (∀ b : Bench, b.st.sc.state ≠ .idle →
    let c := b.work .trips
    let speeds := ∃ v, b.speed = .fresh v ∧ b.setup.tripSpeed < v.natAbs
    let twists := ∃ v, b.torque = .fresh v ∧ b.setup.tripTorque < v.natAbs
    let trips := (speeds ∧ b.st.dc.latchSpeed = false) ∨ (twists ∧ b.st.dc.latchTorque = false)
    let fresh := ∃ v, b.speed = .fresh v
    (c.st.dc.latchSpeed = true ↔ speeds) ∧ (c.st.dc.latchTorque = true ↔ twists) ∧
    (trips →
      c.st.sc.state = .stopping ∧ c.st.sc.stopKind = some .coast ∧ c.st.sc.safety = true ∧
      c.st.sc.stopReason =
        (if b.st.sc.state = .stopping then b.st.sc.stopReason else some .safety) ∧
      c.st.dc.Off ∧ c.lineStop = true ∧ c.flags = { b.flags with safety := true } ∧
      (b.st.sc.state.driving = true → b.TestEnded c) ∧
      ∀ k q, b.store.At k q → q.id = b.st.sc.recordId → q.closed = false →
        ∃ q', c.store.At k q' ∧ q'.basis.safety = true ∧
          let takes (found : List DefectCode) : Prop :=
            let x := found.foldl (fun r d => Record.addDefect d b.st.sc.executed r) q
            q'.defects = x.defects ∧ q'.defectsTruncated = x.defectsTruncated
          let fast := speeds ∧ b.st.dc.latchSpeed = false
          let strained := twists ∧ b.st.dc.latchTorque = false
          (fast → ¬ strained → takes [.overspeed]) ∧ (¬ fast → strained → takes [.overtorque]) ∧
          (fast → strained → takes [.overspeed, .overtorque])) ∧
    (¬ trips → c.st.sc = b.st.sc ∧ c.store = b.store ∧ c.lib = b.lib ∧ c.lineStop = b.lineStop ∧
      c.flags = b.flags ∧ c.st.dc.setpoint = b.st.dc.setpoint ∧ c.st.dc.enable = b.st.dc.enable ∧
      c.st.dc.params = b.st.dc.params) ∧
    (b.st.dc.enable = false → c.st.dc.feedback = 0 ∧
      c.st.dc.latchFeedback = b.st.dc.latchFeedback ∧ c.st.todo = b.st.todo) ∧
    (b.st.dc.enable = true → fresh → c.st.dc.feedback = 0 ∧ c.st.dc.latchFeedback = false ∧
      c.st.todo = b.st.todo) ∧
    (b.st.dc.enable = true → ¬ fresh →
      c.st.dc.feedback = min 50 (b.st.dc.feedback + 1) ∧
      c.st.dc.latchFeedback = b.st.dc.latchFeedback ∧
      c.st.todo = if b.setup.feedbackTimeout ≤ min 50 (b.st.dc.feedback + 1) ∧
        b.st.dc.latchFeedback = false then .due .feedbackLost :: b.st.todo else b.st.todo)) ∧
  (∀ (b : Bench) (c : DefectCode), b.st.sc.state.driving = true →
    c ∈ [DefectCode.noRecipe, .recursion, .chainDepth, .noLimits, .noAngle, .runaway] →
    let f := b.faultTest c
    f.st.sc.state = .stopping ∧ f.st.sc.stopKind = some .controlled ∧
    f.st.sc.stopReason = some .fault ∧ f.st.sc.chain = [] ∧ f.st.sc.segment = none ∧
    f.st.sc.stopTimer = 0 ∧ f.st.sc.safety = b.st.sc.safety ∧ f.st.dc.enable = true ∧
    f.st.dc.setpoint = b.st.dc.setpoint ∧ f.lineStop = b.lineStop ∧ f.flags = b.flags ∧ b.TestEnded f ∧
    ∀ k q, b.store.At k q → q.id = b.st.sc.recordId → q.closed = false →
      ∃ q', f.store.At k q' ∧ q'.closed = false ∧ q'.basis.fault = true ∧
        q'.defects = (q.addDefect c b.st.sc.executed).defects ∧
        q'.defectsTruncated = (q.addDefect c b.st.sc.executed).defectsTruncated) ∧
  ∀ (s : State) (i : StNo) (rest : List Todo),
    (s.Due i .feedbackLost rest → (s.stations.get i).sc.state ≠ .idle → ∃ b,
      LeavesBench (.feedbackLost i) s i rest b ∧
      b.st.sc.state = .stopping ∧ b.st.sc.stopKind = some .coast ∧ b.st.sc.safety = true ∧
      b.st.sc.stopReason = (if (s.stations.get i).sc.state = .stopping
        then (s.stations.get i).sc.stopReason else some .safety) ∧
      b.st.dc.Off ∧ b.st.dc.latchFeedback = true ∧ b.lineStop = true ∧ b.flags.safety = true ∧
      ((s.stations.get i).sc.state.driving = true → (s.bench i).TestEnded b) ∧
      (∀ k q, s.store.At k q → q.id = (s.stations.get i).sc.recordId → q.closed = false →
        ∃ q', b.store.At k q' ∧ q'.basis.safety = true ∧
          q'.defects = (q.addDefect .feedbackLost (s.stations.get i).sc.executed).defects ∧
          q'.defectsTruncated =
            (q.addDefect .feedbackLost (s.stations.get i).sc.executed).defectsTruncated)) ∧
    (s.Due i .runaway rest → (s.stations.get i).sc.state.driving = true → ∃ b,
      LeavesBench (.runaway i) s i rest b ∧
      b.st.sc.state = .stopping ∧ b.st.sc.stopKind = some .controlled ∧
      b.st.sc.stopReason = some .fault ∧ b.st.sc.chain = [] ∧ b.lineStop = s.lineStop ∧
      b.flags = s.flags ∧ (s.bench i).TestEnded b ∧
      (∀ k q, s.store.At k q → q.id = (s.stations.get i).sc.recordId → q.closed = false →
        ∃ q', b.store.At k q' ∧ q'.basis.fault = true ∧
          q'.defects = (q.addDefect .runaway (s.stations.get i).sc.executed).defects ∧
          q'.defectsTruncated =
            (q.addDefect .runaway (s.stations.get i).sc.executed).defectsTruncated))

/-- R73, R79, R80, R161, R169: a stop that completes closes the record and leaves the station IDLE; one that
times out first disables the drive and records STOP_TIMEOUT. The close stamps the record with cycle number,
stop reason and verdict, queues its id, sets REPORT_READY, tells the verdict to OU, releases the variant
and keeps the run mode. -/
def Obligations.StopsEndInAClosedRecord : Prop :=
  (∀ (s : State) (i : StNo) (rest : List Todo), (s.stations.get i).sc.state = .stopping →
    (s.Due i .stopComplete rest →
      LeavesBench (.stopComplete i) s i rest ((s.desk i).closeRecord false)) ∧
    (s.Due i .stopTimeout rest →
      LeavesBench (.stopTimeout i) s i rest
        ((((s.desk i).setDc { (s.stations.get i).dc with
          enable := false, setpoint := 0, torqueLimit := 0 }).recordDefect .stopTimeout).closeRecord
          false))) ∧
  (∀ (t : Store) (id : Nat) (why : Option StopReason) (v : Verdict), t.verdictAtClose id why = some v ↔
    ∃ q, findRecord t.slots id = some q ∧ q.closed = false ∧ v = verdictOf q.basis why) ∧
  ∀ (b : Bench) (v : Verdict), b.st.sc.state ≠ .idle →
    b.store.verdictAtClose b.st.sc.recordId b.st.sc.stopReason = some v →
    (b.closeRecord false).st.sc = Context.idle ∧ (b.closeRecord false).st.dc.Off ∧
    (b.closeRecord false).st.mode = b.st.mode ∧ (b.closeRecord false).flags.reportReady = true ∧
    (b.closeRecord false).store.closeQueue = b.store.closeQueue ++ [b.st.sc.recordId] ∧
    (b.closeRecord false).st.ou = b.st.ou.verdict b.setup v ∧
    (b.closeRecord false).st.lu = b.st.lu ∧ (b.closeRecord false).lineStop = b.lineStop ∧
    (b.closeRecord false).lib = (match b.st.sc.variantUse, b.st.sc.variantSlot with
      | true, some k => b.lib.dropVariant k
      | _, _ => b.lib) ∧
    ∀ k q, b.store.At k q → q.id = b.st.sc.recordId → q.closed = false →
      (b.closeRecord false).store.At k { q with
        closeStamp := some b.now, stopReason := b.st.sc.stopReason
        verdict := some (verdictOf q.basis b.st.sc.stopReason), closed := true }

/-- R162: the verdict of a record at its close is the first row of the table that applies. -/
def Obligations.VerdictPrecedence : Prop :=
  (∀ (q : Record) (now : Word) (why : Option StopReason),
    (q.close now why).verdict = some (verdictOf q.basis why)) ∧
  ∀ (m : Basis) (why : Option StopReason),
    (verdictOf m why = .faulted ↔ m.fault = true ∨ m.safety = true) ∧
    (verdictOf m why = .aborted ↔ m.fault = false ∧ m.safety = false ∧
      (why = some .operator ∨ why = some .tableReplaced ∨ why = some .cellReset)) ∧
    (verdictOf m why = .fail ↔ m.fault = false ∧ m.safety = false ∧ m.fail = true ∧
      why ≠ some .operator ∧ why ≠ some .tableReplaced ∧ why ≠ some .cellReset) ∧
    (verdictOf m why = .notJudged ↔ m.fault = false ∧ m.safety = false ∧ m.fail = false ∧
      (m.gap = true ∨ m.process = true) ∧
      why ≠ some .operator ∧ why ≠ some .tableReplaced ∧ why ≠ some .cellReset) ∧
    (verdictOf m why = .pass ↔ m = ⟨false, false, false, false, false⟩ ∧
      why ≠ some .operator ∧ why ≠ some .tableReplaced ∧ why ≠ some .cellReset)

/-- R169, R170, R172: PASS is asserted by a PASS alone; every verdict but PASS and ABORTED is a trigger, which
begins a pulse or catches from READY and otherwise waits, up to four, or is lost and counted. R171: at a ring
cycle event the pulse timer of a PULSING and the recovery timer of a RECOVERING station in PULSE mode rise,
and PULSE_END or RECOVERY_END falls due, as a step of its own (log entry 1), at the width or recovery in
force; no other station is worked. -/
def Obligations.VerdictsDriveTheOutputs : Prop :=
  (∀ o : Output, o.rejectPin = true ↔ o.reject = .pulsing ∨ o.reject = .caught) ∧
  (∀ b : Bench, b.st.todo = [] →
    let o := b.st.ou
    (b.setup.rejectMode = .catch ∨ o.reject = .ready ∨ o.reject = .caught → b.work .outputs = b) ∧
    (b.setup.rejectMode = .pulse → o.reject = .pulsing →
      b.work .outputs = (b.setOu { o with pulseTimer := o.pulseTimer + 1 }).setTodo
        (if o.width ≤ o.pulseTimer + 1 then [.due .pulseEnd] else [])) ∧
    (b.setup.rejectMode = .pulse → o.reject = .recovering →
      b.work .outputs = (b.setOu { o with recoveryTimer := o.recoveryTimer + 1 }).setTodo
        (if o.recovery ≤ o.recoveryTimer + 1 then [.due .recoveryEnd] else []))) ∧
  ∀ (su : Setup) (o : Output) (v : Verdict),
    (v = .pass → o.verdict su v = { o with pass := true }) ∧
    (v = .aborted → o.verdict su v = o) ∧
    (v ≠ .pass → v ≠ .aborted →
      (o.reject = .ready → su.rejectMode = .pulse →
        o.verdict su v = { o with reject := .pulsing, pulseTimer := 0, width := su.width }) ∧
      (o.reject = .ready → su.rejectMode = .catch → o.verdict su v = { o with reject := .caught }) ∧
      (o.reject ≠ .ready → o.pending < 4 → o.verdict su v = { o with pending := o.pending + 1 }) ∧
      (o.reject ≠ .ready → 4 ≤ o.pending →
        o.verdict su v = { o with lost := min 65535 (o.lost + 1) }))

/-- R171: the end of a pulse begins the recovery with the R in force. Where R is 0, PULSE_END does what
follows a recovery too, and no RECOVERY_END falls due (log entry 21): the next pending pulse with the W in
force, or READY, in which the timers keep their last values (log entry 33). -/
def Obligations.PulsesAndRecoveriesEnd : Prop :=
  ∀ (s : State) (i : StNo) (rest : List Todo),
    let o := (s.stations.get i).ou
    let su := s.setups.get i
    (s.Due i .pulseEnd rest → su.recovery ≠ 0 →
      LeavesBench (.pulseEnd i) s i rest ((s.desk i).setOu
        { o with reject := .recovering, recoveryTimer := 0, recovery := su.recovery })) ∧
    (s.Due i .pulseEnd rest → su.recovery = 0 → ∃ o', LeavesBench (.pulseEnd i) s i rest
      ((s.desk i).setOu o') ∧
      (o.pending = 0 → o'.reject = .ready ∧ o'.pending = 0) ∧
      (0 < o.pending → o'.reject = .pulsing ∧ o'.pending + 1 = o.pending ∧ o'.pulseTimer = 0 ∧
        o'.width = su.width)) ∧
    (s.Due i .recoveryEnd rest → o.pending = 0 →
      LeavesBench (.recoveryEnd i) s i rest ((s.desk i).setOu { o with reject := .ready })) ∧
    (s.Due i .recoveryEnd rest → 0 < o.pending →
      LeavesBench (.recoveryEnd i) s i rest ((s.desk i).setOu
        { o with reject := .pulsing, pulseTimer := 0, width := su.width, pending := o.pending - 1 }))

/-- R103, R105, R106, R110, R111, R118: a sample set gives its step from the last angle and becomes the last
angle, in every unit state. SEEKING, a set with a step starts a window where every start condition holds, and
its accumulators take x[0]; COLLECTING, T_s rises and the set counts only, is taken as x[k] into every
COMPUTED line's sums, closes the window, or voids it ALIAS, DIRECTION or SLOW. A gap or loss-of-sync signal,
an absent cycle and a clear steady flag void a collecting window, its accumulators dropped; a gap also clears
the last angle. What closes or cuts off falls due as a step (log entry 1), a SLOW window with T_s at 65,535
(log entry 17). R107, R108, R109, R113, R123, R125: a window that closes off its speed ends VOID SPEED; one
within the band is VALID, every order line counts it, and a point that is then settled finishes; otherwise,
unless the attempts have run out, the closing set may start the next window. -/
def Obligations.WindowCloseJudgesTheWindow : Prop :=
  (∀ b : Bench,
    (b.pointSettled = true ↔ ∃ pt, b.st.point = some pt ∧ ∀ l ∈ pt.lines, l.verdict ≠ .undecided) ∧
    (b.exhausted = true ↔ ∃ pt, b.st.point = some pt ∧ (∃ l ∈ pt.lines, l.verdict = .undecided) ∧
      pt.maxAttempts ≤ b.st.aw.attempts) ∧
    ∀ x l, b.st.aw.state = .seeking → b.st.aw.lastAngle = some l → b.work (.sampleSet x) =
      (b.setAw { b.st.aw with lastAngle := some x.angle }).testStart x (x.angle - l).toInt) ∧
  (∀ (b : Bench) (a : AngleUnit), b.st.todo = [] → b.st.aw = a →
    let voided (last : Option Half) (window : Option WindowRecord) (why : VoidReason) : Bench :=
      (b.setAw { a with
        lastAngle := last, state := .seeking, attempts := a.attempts + 1, voids := a.voids + 1
        window := window.map fun w =>
          { w with state := .void, reason := some why, speed := none, accums := [] } }).setTodo
        (match b.st.point with
          | some pt =>
            if (∃ l ∈ pt.lines, l.verdict = .undecided) ∧ pt.maxAttempts ≤ a.attempts + 1
            then [.due .listenCutOff] else []
          | none => [])
    (a.state = .collecting →
      b.work .gap = voided none a.window .gap ∧
      b.work .absent = voided a.lastAngle a.window .gap ∧
      b.work .steadyTest =
        if b.st.dc.steady = true then b else voided a.lastAngle a.window .unsteady) ∧
    (a.state ≠ .collecting →
      b.work .gap = b.setAw { a with lastAngle := none } ∧ b.work .absent = b ∧
      b.work .steadyTest = b) ∧
    ∀ x : SampleSet,
      let seen := b.setAw { a with lastAngle := some x.angle }
      (a.lastAngle = none ∨ a.state = .inactive → b.work (.sampleSet x) = seen) ∧
      ∀ l, a.lastAngle = some l →
        let step := (x.angle - l).toInt
        let starts := step ≠ 0 ∧ b.st.sc.state = .running ∧
          (∃ g, b.st.sc.segment = some g ∧ g.body.kind = .listen) ∧ b.st.dc.steady = true ∧
          (∀ act, b.st.lu = some act → act.phase ≠ .fill) ∧
          headSynced b.heads b.setup.vibrationHead = true
        (a.state = .seeking → ¬ starts → b.work (.sampleSet x) = seen) ∧
        ∀ p pt, a.params = some p → b.st.point = some pt →
        let value := match p.channel with
          | .a => x.a
          | .b => x.b
        let cosine (n : Nat) : Int := p.table.getD (n % p.e) 0
        (a.state = .seeking → starts → b.work (.sampleSet x) = b.setAw { a with
          lastAngle := some x.angle
          state := .collecting
          window := some
            { startAngle := x.angle, direction := if 0 < step then .up else .down, k := 0, ts := 0
              speed := none, state := .collecting, reason := none
              accums := pt.lines.map fun q =>
                if q.computed = true then ⟨value * cosine 0, value * cosine (3 * p.e / 4)⟩
                else ⟨0, 0⟩ } }) ∧
        (∀ w, a.state = .collecting → a.window = some w →
          let w1 := { w with ts := w.ts + 1 }
          let along := if w.direction = .up then 0 < step else step < 0
          (65536 ≤ w.ts + 1 → b.work (.sampleSet x) = seen.setTodo [.due .slow]) ∧
          (w.ts + 1 < 65536 →
            (step = 0 → b.work (.sampleSet x) =
              b.setAw { a with lastAngle := some x.angle, window := some w1 }) ∧
            (step ≠ 0 → ¬ along → b.work (.sampleSet x) = voided (some x.angle) (some w1) .direction) ∧
            (along → 2 ≤ step.natAbs → b.work (.sampleSet x) = voided (some x.angle) (some w1) .skipped) ∧
            (along → step.natAbs = 1 → w.k + 1 < p.e * p.n →
              b.work (.sampleSet x) = b.setAw { a with
                lastAngle := some x.angle
                window := some { w1 with
                  k := w.k + 1
                  accums := List.zipWith (fun q s =>
                    if q.computed = true then
                      ⟨s.c + value * cosine (q.order * (w.k + 1)),
                        s.s + value * cosine (q.order * (w.k + 1) + 3 * p.e / 4)⟩
                    else s) pt.lines w.accums } }) ∧
            (along → step.natAbs = 1 → p.e * p.n ≤ w.k + 1 →
              b.work (.sampleSet x) = (b.setAw { a with
                lastAngle := some x.angle
                window := some { w1 with k := w.k + 1 } }).setTodo [.due (.windowClose x step)])))) ∧
  ∀ (s : State) (i : StNo) (rest : List Todo) (x : SampleSet) (d : Int) (w : WindowRecord)
    (p : ListenParams) (pt : Point),
    s.Due i (.windowClose x d) rest → (s.stations.get i).aw.state = .collecting →
    (s.stations.get i).aw.window = some w → (s.stations.get i).aw.params = some p →
    (s.stations.get i).point = some pt →
    let v := (19200000 * p.n + w.ts / 2) / w.ts
    let a := (s.stations.get i).aw
    let tooFast := ((s.stations.get i).dc.params.map Params.band).getD 0 <
      ((v : Int) - ((s.stations.get i).dc.formed.natAbs : Int)).natAbs
    let voided := (s.desk i).setAw { a with
      state := .seeking, attempts := a.attempts + 1, voids := a.voids + 1
      window := some { w with state := .void, reason := some .speed, speed := some v, accums := [] } }
    let counted := ((s.desk i).setAw { a with
      state := .seeking, attempts := a.attempts + 1
      window := some { w with state := .valid, speed := some v } }).setPoint
        (some { pt with lines := voteAll (pt.bandOf v) (p.e * p.n) pt.lines w.accums })
    (tooFast → LeavesBench (.windowClose i) s i rest
      (if voided.exhausted then voided.raise .listenCutOff else voided.testStart x d)) ∧
    (¬ tooFast → LeavesBench (.windowClose i) s i rest
      (if counted.pointSettled then counted.finishPoint
        else if counted.exhausted then counted.raise .listenCutOff else counted.testStart x d))

/-- R106, R113, R118, R124, R125: a window that has grown SLOW ends VOID with its accumulators dropped, the
attempts and the void count rise, no order counts it, and the cut-off falls due, as a step of its own (log
entry 1), when the attempts have run out with a line undecided. -/
def Obligations.SlowWindowIsVoid : Prop :=
  ∀ (s : State) (i : StNo) (rest : List Todo) (w : WindowRecord), s.Due i .slow rest →
    (s.stations.get i).aw.state = .collecting → (s.stations.get i).aw.window = some w → ∃ b,
    LeavesBench (.slow i) s i rest b ∧
    b.st.aw = { (s.stations.get i).aw with
      state := .seeking, attempts := (s.stations.get i).aw.attempts + 1
      voids := (s.stations.get i).aw.voids + 1
      window := some { w with state := .void, reason := some .slow, speed := none, accums := [] } } ∧
    b.st.point = (s.stations.get i).point ∧ b.store = s.store ∧
    (∀ pt, (s.stations.get i).point = some pt →
      (b.st.todo = [.due .listenCutOff] ↔ (∃ l ∈ pt.lines, l.verdict = .undecided) ∧
        pt.maxAttempts ≤ (s.stations.get i).aw.attempts + 1))

/-- R125, R126, R127, R128: a point cut off, or at its time limit, takes every undecided line as NOT_JUDGED,
writes an order result for every line, then for every line its one defect with the point's ordinal,
NOISE_ORDER for a FAIL, ORDER_RANGE for one out of range, NOISE_NOT_JUDGED for one cut off, and its LISTEN
ends with the worst of its verdicts. R156, R159: a defect sets its mark, raises the count of its code where
the list holds it, else joins a list of fewer than 8 entries with count 1, else sets DEFECTS_TRUNCATED. R156,
R157, R158, R160: a segment result FAILED, an order result FAIL and a leak result FAIL set FAIL, one
NOT_JUDGED sets GAP, and no other sets a mark; the 65th segment result and the 33rd order result are not
stored and set SEGMENTS_TRUNCATED and ORDERS_TRUNCATED; a leak result replaces the one before it. Each entry
leaves the rest of the record as it was. -/
def Obligations.PointIsFinished : Prop :=
  (∀ (t : Store) (id : Nat) (f : Record → Record), t.onOpen id f = { t with
    slots := t.slots.map fun o => o.map fun q => if q.id = id ∧ q.closed = false then f q else q }) ∧
  (∀ (b : Bench) (g : Segment) (p : Point), b.st.sc.state = .running → b.st.sc.segment = some g →
    g.body.kind = .listen → b.st.point = some p →
    let o := if ∃ l ∈ p.lines, l.verdict = .fail then SegOutcome.failed
      else if ∃ l ∈ p.lines, l.verdict = .notJudged ∨ l.verdict = .undecided then .notJudged else .done
    b.finishPoint = b.writePoint.segmentOver g o ∧
    b.writePoint = (b.setStore b.writePoint.store).setPoint (some { p with lines := p.lines.map fun l =>
      if l.verdict = .undecided then { l with verdict := .notJudged } else l })) ∧
  (∀ (c : DefectCode) (n : Nat) (q : Record),
    let q' := q.addDefect c n
    ((∃ d ∈ q.defects, d.code = c) → q'.defectsTruncated = q.defectsTruncated ∧
      q'.defects = q.defects.map fun d =>
        if d.code = c then { d with count := min 255 (d.count + 1) } else d) ∧
    ((∀ d ∈ q.defects, d.code ≠ c) → q.defects.length < 8 →
      q'.defectsTruncated = q.defectsTruncated ∧ q'.defects = q.defects ++ [⟨c, n, 1⟩]) ∧
    ((∀ d ∈ q.defects, d.code ≠ c) → 8 ≤ q.defects.length →
      q'.defectsTruncated = true ∧ q'.defects = q.defects) ∧
    (q'.basis.fail = true ↔ q.basis.fail = true ∨ c ∈ [DefectCode.speedNotReached, .speedDeviation,
      .torqueLimit, .noiseOrder, .grossLeak, .leakRate, .leakBusy]) ∧
    (q'.basis.gap = true ↔
      q.basis.gap = true ∨ c ∈ [DefectCode.noiseNotJudged, .orderRange, .leakNotJudged]) ∧
    (q'.basis.process = true ↔
      q.basis.process = true ∨ c ∈ [DefectCode.ventTimeout, .stopTimeout]) ∧
    (q'.basis.fault = true ↔ q.basis.fault = true ∨ c ∈ [DefectCode.noRecipe, .recursion, .chainDepth,
      .noLimits, .noAngle, .runaway]) ∧
    (q'.basis.safety = true ↔
      q.basis.safety = true ∨ c ∈ [DefectCode.overspeed, .overtorque, .feedbackLost]) ∧
    q' = { q with
      basis := q'.basis, defects := q'.defects, defectsTruncated := q'.defectsTruncated }) ∧
  (∀ q : Record,
    let left (q' stored : Record) (fails gaps : Prop) : Prop :=
      (q'.basis.fail = true ↔ q.basis.fail = true ∨ fails) ∧
      (q'.basis.gap = true ↔ q.basis.gap = true ∨ gaps) ∧
      q' = { stored with basis := { q.basis with fail := q'.basis.fail, gap := q'.basis.gap } }
    (∀ x, left (q.addSegment x)
      (if q.segs.length < 64 then { q with segs := q.segs ++ [x] } else { q with segsTruncated := true })
      (x.outcome = .failed) (x.outcome = .notJudged)) ∧
    (∀ x, left (q.addOrder x)
      (if q.orders.length < 32 then { q with orders := q.orders ++ [x] }
        else { q with ordersTruncated := true })
      (x.verdict = .fail) (x.verdict = .notJudged)) ∧
    ∀ x, left (q.placeLeak x) { q with leak := some x } (x.outcome = .fail) (x.outcome = .notJudged)) ∧
  ∀ (s : State) (i : StNo) (rest : List Todo) (g : Segment) (p : Point), s.Runs i g →
    g.body.kind = .listen → (s.stations.get i).point = some p →
    let o := if ∃ l ∈ p.lines, l.verdict = .fail then SegOutcome.failed
      else if ∃ l ∈ p.lines, l.verdict = .notJudged ∨ l.verdict = .undecided then .notJudged else .done
    (s.Due i .listenCutOff rest →
      LeavesBench (.listenCutOff i) s i rest ((s.desk i).writePoint.segmentOver g o)) ∧
    (s.Due i .listenTimeLimit rest →
      LeavesBench (.listenTimeLimit i) s i rest ((s.desk i).writePoint.segmentOver g o)) ∧
    ∃ t, (s.desk i).writePoint.store = t ∧
      ∀ k q, s.store.At k q → q.id = (s.stations.get i).sc.recordId → q.closed = false →
        ∃ q', t.At k q' ∧ q'.orders = (q.orders ++ p.lines.map (fun l =>
          OrderResult.mk p.ordinal l.order l.lastBand
            (if l.verdict = .undecided then .notJudged else l.verdict) l.levels
            (s.stations.get i).aw.voids)).take (max 32 q.orders.length) ∧
          let codes := p.lines.filterMap fun l =>
            if l.verdict = .fail then some DefectCode.noiseOrder
            else if l.verdict = .pass then none
            else if l.computed = true then some .noiseNotJudged else some .orderRange
          q'.defects = (codes.foldl (fun r c => Record.addDefect c p.ordinal r) q).defects ∧
          (q'.basis.fail = true ↔ q.basis.fail = true ∨ ∃ l ∈ p.lines, l.verdict = .fail) ∧
          (q'.basis.gap = true ↔ q.basis.gap = true ∨
            ∃ l ∈ p.lines, l.verdict = .notJudged ∨ l.verdict = .undecided)

/-- R112, R118, R135, R137, R138, R141, R143: FILL, SETTLE and MEASURE enter their phases with phase timer 0,
and the model marks the phase as entered in this event (log entry 9); SETTLE takes the fill time, MEASURE the
measure entry and the ambient pressure; FILL voids a collecting window HISS and drops its accumulators.
The start block fixes B_start as its rounded mean and s as the clock of its first cycle. -/
def Obligations.LeakPhasesAreEntered : Prop :=
  ∀ (s : State) (i : StNo) (rest : List Todo) (a : Activity), (s.stations.get i).lu = some a →
    a.mark = .old →
    (s.Due i .fill rest → ∃ b, LeavesBench (.fill i) s i rest b ∧
      b.st.lu = some { a with phase := .fill, timer := 0, mark := .entered } ∧
      ((s.stations.get i).aw.state ≠ .collecting → b.st.aw = (s.stations.get i).aw) ∧
      ((s.stations.get i).aw.state = .collecting → b.st.aw = { (s.stations.get i).aw with
        state := .seeking, attempts := (s.stations.get i).aw.attempts + 1
        voids := (s.stations.get i).aw.voids + 1
        window := (s.stations.get i).aw.window.map fun w =>
          { w with state := .void, reason := some .hiss, speed := none, accums := [] } })) ∧
    (s.Due i .settle rest → LeavesBench (.settle i) s i rest ((s.desk i).setLu (some { a with
      phase := .settle, timer := 0, mark := .entered, fillTime := some a.timer }))) ∧
    (s.Due i .measure rest → LeavesBench (.measure i) s i rest ((s.desk i).setLu (some { a with
      phase := .measure, timer := 0, mark := .entered, measureEntry := some a.clock
      ambient := some s.cell.ambient, block := none }))) ∧
    (∀ k, s.Due i .startBlock rest → a.block = some k →
      LeavesBench (.startBlock i) s i rest ((s.desk i).setLu (some { a with
        bStart := some ((k.sum + a.params.averaging / 2) / a.params.averaging, k.first)
        block := none })))

/-- R135, R140, R141, R142, R143: in MEASURE clock and phase timer rise; a cycle that is eligible hands its
normalised pressure to the block, any other breaks it (the steady flag as it stands after drive control's
work, log entry 32); the start block is due when full and the end block, begun at s + M or later, likewise;
DISTURBED is due where the hold limit runs out first. Each falls due as a step of its own (log entry 1), and
the work is that of an activity whose phase was entered before this event (log entry 9).
R142, R144, R145, R147: the end block fixes B_end and t, the leak rate is the decay over them, saturated at
65535, and the activity vents with PASS when a rate not saturated is at most the leak limit, else FAIL with
the defect LEAK_RATE; defect and leak result reach the OPEN record that owns the activity (log entry 24). -/
def Obligations.EndBlockJudgesTheLeak : Prop :=
  (∀ (b : Bench) (a : Activity), b.st.todo = [] → b.st.lu = some a → a.mark = .old →
    a.phase = .measure →
    let clock := min 4294967295 (a.clock + 1)
    let timer := min 4294967295 (a.timer + 1)
    let head := b.process
    let n : Option Nat :=
      match head.slots.housing, head.slots.airTemp with
      | .fresh p, .fresh t =>
        if headSynced b.heads b.setup.processHead = true ∧ head.absent = false ∧
          head.signalled = false ∧ 0 ≤ p ∧ p ≤ 400000 ∧ -4000 ≤ t ∧ t ≤ 15000 ∧
          b.st.dc.steady = true
        then some (((p.toNat + a.ambient.getD 0) * 29315 + (t + 27315).toNat / 2) / (t + 27315).toNat)
        else none
      | _, _ => none
    let block : Option Block :=
      match n, a.block with
      | none, _ => none
      | some n, none => some ⟨n, 1, clock⟩
      | some n, some k => some ⟨k.sum + n, k.count + 1, k.first⟩
    let full := ∃ k, block = some k ∧ a.params.averaging ≤ k.count
    let judged (last : Nat) (e : StEvent) : Prop :=
      (full → b.work .leakWork =
        (b.setLu (some { a with clock := clock, timer := timer, block := block })).setTodo [.due e]) ∧
      (¬ full → b.work .leakWork =
        (b.setLu (some { a with clock := clock, timer := timer, block := block })).setTodo
          (if last + a.params.averaging + a.params.holdLimit ≤ clock then [.due .disturbed] else []))
    (a.bStart = none → judged (a.measureEntry.getD 0) .startBlock) ∧
    ∀ bs first, a.bStart = some (bs, first) →
      (clock < first + a.params.measure → b.work .leakWork =
        b.setLu (some { a with clock := clock, timer := timer })) ∧
      (first + a.params.measure ≤ clock → judged (first + a.params.measure) .endBlock)) ∧
  ∀ (s : State) (i : StNo) (rest : List Todo) (a : Activity) (k : Block) (bs first : Nat),
    s.Due i .endBlock rest → (s.stations.get i).lu = some a → a.phase = .measure → a.block = some k →
    a.bStart = some (bs, first) →
    let be := (k.sum + a.params.averaging / 2) / a.params.averaging
    let t := k.first - first
    let q := ((bs - be) * a.volume * 6000000 + 101325 * t / 2) / (101325 * t)
    let rate : LeakRate := if bs ≤ be then ⟨0, decide (bs < be), false⟩
      else if 65535 < q then ⟨65535, false, true⟩ else ⟨q, false, false⟩
    let pass := rate.sat = false ∧ rate.q ≤ a.leakLimit
    ∃ b a', LeavesBench (.endBlock i) s i rest b ∧ b.st.lu = some a' ∧ a'.phase = .vent ∧ a'.timer = 0 ∧
      a'.computed = some ⟨be, t, rate⟩ ∧ a'.bStart = a.bStart ∧ a'.fillTime = a.fillTime ∧
      a'.result = some (if pass then .pass else .fail) ∧
      a'.reason = (if pass then none else some .leakRate) ∧
      (let x : LeakResult := ⟨if pass then .pass else .fail, if pass then none else some .leakRate,
         a.fillTime, some bs, some ⟨be, t, rate⟩⟩
       (a.owner = (s.stations.get i).sc.recordId → b.store =
         if pass then s.store.onOpen a.owner (Record.placeLeak x)
         else (s.store.onOpen a.owner (Record.addDefect .leakRate
           (s.stations.get i).sc.executed)).onOpen a.owner (Record.placeLeak x)) ∧
       (a.owner ≠ (s.stations.get i).sc.recordId → b.store = s.store)) ∧
      b.st.sc = (s.stations.get i).sc ∧ b.st.dc = (s.stations.get i).dc ∧
      b.st.aw = (s.stations.get i).aw

/-- R135, R136, R137, R138: an activity started within the event is not worked, one whose phase was entered in
it counts its clock alone (log entry 9), a DONE one nothing. In the phases before MEASURE clock and phase
timer rise and then FILL, SUPPLY_WAIT_LIMIT, SETTLE, GROSS_LEAK or MEASURE falls due, as a step of its own
(log entry 1). R136, R137, R141, R145, R147: a supply wait at its limit, a fill at its timeout and a
measurement at its deadline fix the result, its reason and defect, place the leak result in the OPEN record
that owns the activity, and vent. -/
def Obligations.UnfinishedLeakTestsVent : Prop :=
  (∀ (b : Bench) (a : Activity) (o : LeakOutcome) (why : Option LeakReason) (c : Option DefectCode),
    (b.st.lu = none → b.fixLeak o why c = b) ∧
    (b.st.lu = some a → a.phase = .vent ∨ a.phase = .done → b.fixLeak o why c = b) ∧
    (b.st.lu = some a → a.phase ≠ .vent → a.phase ≠ .done → b.fixLeak o why c =
      (b.setLu (some (a.fix o why))).setStore
        (if a.owner = b.st.sc.recordId then
          (match c with
            | some d => b.store.onOpen a.owner (Record.addDefect d b.st.sc.executed)
            | none => b.store).onOpen a.owner (Record.placeLeak
              ⟨o, why, (a.fix o why).fillTime, a.bStart.map Prod.fst, a.computed⟩)
        else b.store))) ∧
  (∀ b : Bench, b.st.todo = [] →
    (b.st.lu = none → b.work .leakWork = b) ∧
    ∀ a, b.st.lu = some a →
      let clock := min 4294967295 (a.clock + 1)
      let timer := min 4294967295 (a.timer + 1)
      let worked := b.setLu (some { a with clock := clock, timer := timer })
      (a.phase = .done ∨ a.mark = .started → b.work .leakWork = b) ∧
      (a.phase ≠ .done → a.mark = .entered →
        b.work .leakWork = b.setLu (some { a with clock := clock })) ∧
      (a.mark = .old → a.phase = .fillWait → b.work .leakWork = worked.setTodo
        (if b.supplyOk = true then [.due .fill]
          else if b.cell.supplyWait ≤ timer then [.due .supplyWaitLimit] else [])) ∧
      (a.mark = .old → a.phase = .fill →
        ((∃ p, b.process.slots.housing = .fresh p ∧ (a.params.fillTarget : Int) ≤ p) →
          b.work .leakWork = worked.setTodo [.due .settle]) ∧
        ((∀ p, b.process.slots.housing = .fresh p → p < (a.params.fillTarget : Int)) →
          b.work .leakWork = worked.setTodo
            (if a.params.fillTimeout ≤ timer then [.due .grossLeak] else []))) ∧
      (a.mark = .old → a.phase = .settle → b.work .leakWork = worked.setTodo
        (if a.params.settle ≤ timer then [.due .measure] else []))) ∧
  ∀ (s : State) (i : StNo) (rest : List Todo) (a : Activity), (s.stations.get i).lu = some a →
    a.owner = (s.stations.get i).sc.recordId →
    (s.Due i .supplyWaitLimit rest → a.phase = .fillWait → ∃ b, LeavesBench (.supplyWaitLimit i) s i rest b ∧
      b.st.lu = some (a.fix .notJudged (some .airShort)) ∧
      b.store = (s.store.onOpen a.owner (Record.addDefect .leakNotJudged
        (s.stations.get i).sc.executed)).onOpen a.owner
        (Record.placeLeak ⟨.notJudged, some .airShort, a.fillTime, a.bStart.map Prod.fst, a.computed⟩)) ∧
    (s.Due i .grossLeak rest → a.phase = .fill → ∃ b, LeavesBench (.grossLeak i) s i rest b ∧
      b.st.lu = some ({ a with fillTime := some a.params.fillTimeout }.fix .fail (some .grossLeak)) ∧
      b.store = (s.store.onOpen a.owner (Record.addDefect .grossLeak
        (s.stations.get i).sc.executed)).onOpen a.owner
        (Record.placeLeak ⟨.fail, some .grossLeak, some a.params.fillTimeout, a.bStart.map Prod.fst,
          a.computed⟩)) ∧
    (s.Due i .disturbed rest → a.phase = .measure → ∃ b, LeavesBench (.disturbed i) s i rest b ∧
      b.st.lu = some (a.fix .notJudged (some .disturbed)) ∧
      b.store = (s.store.onOpen a.owner (Record.addDefect .leakNotJudged
        (s.stations.get i).sc.executed)).onOpen a.owner
        (Record.placeLeak ⟨.notJudged, some .disturbed, a.fillTime, a.bStart.map Prod.fst, a.computed⟩)) ∧
    ∀ o why, a.fix o why = { a with
      phase := .vent, timer := 0, mark := if a.mark = .started then .started else .entered
      result := some o, reason := why, block := none
      fillTime := if a.phase = .fill ∧ a.fillTime = none then some a.timer else a.fillTime }

/-- R146, R148, R152: a vent that ends makes the activity DONE with both valves closed; at its timeout the
OPEN owner gets VENT_TIMEOUT first, that owner being the station's own record (log entry 24). Then a LEAK_WAIT
ends DONE, a FINISHING station closes its record, a stop that is complete completes, and any other station,
one RUNNING another segment too, goes on untouched. R135: in VENT clock and phase timer rise, and VENT_DONE
falls due at a fresh pressure at or below the threshold, else VENT_TIMEOUT at the timeout, each as a step of
its own (log entry 1), for an activity whose phase was entered before this event (log entry 9). -/
def Obligations.VentsEndInDone : Prop :=
  (∀ b : Bench, b.stopped = true ↔ b.st.sc.state = .stopping ∧ b.st.dc.setpoint = 0 ∧
    (∃ v, b.speed = .fresh v ∧ v.natAbs ≤ b.setup.zeroBand) ∧ ∀ a, b.st.lu = some a → a.phase = .done) ∧
  (∀ (b : Bench) (a : Activity), b.st.todo = [] → b.st.lu = some a → a.mark = .old → a.phase = .vent →
    let timer := min 4294967295 (a.timer + 1)
    let worked := b.setLu (some { a with clock := min 4294967295 (a.clock + 1), timer := timer })
    ((∃ p, b.process.slots.housing = .fresh p ∧ p ≤ (a.params.ventThreshold : Int)) →
      b.work .leakWork = worked.setTodo [.due .ventDone]) ∧
    ((∀ p, b.process.slots.housing = .fresh p → (a.params.ventThreshold : Int) < p) →
      b.work .leakWork = worked.setTodo
        (if a.params.ventTimeout ≤ timer then [.due .ventTimeout] else []))) ∧
  (∀ (b : Bench) (g : Segment), b.st.sc.state = .running → b.st.sc.segment = some g →
    g.body.kind ≠ .leakWait → b.tellLeakDone = b) ∧
  ∀ (s : State) (i : StNo) (rest : List Todo) (a : Activity) (b : Bench),
    (s.stations.get i).lu = some a →
    (s.Due i .ventDone rest ∧
        b = (s.desk i).setLu (some (a.enter .done)) →
      LeavesBench (.ventDone i) s i rest b.tellLeakDone) ∧
    (s.Due i .ventTimeout rest ∧
        b = (if a.owner = (s.stations.get i).sc.recordId then (s.desk i).recordDefect .ventTimeout
          else s.desk i).setLu (some (a.enter .done)) →
      LeavesBench (.ventTimeout i) s i rest b.tellLeakDone) ∧
    (a.enter .done = { a with
        phase := .done, timer := 0, mark := if a.mark = .started then .started else .entered } ∧
      fillValve (some (a.enter .done)) = false ∧
      ventValve (some (a.enter .done)) = false) ∧
    (∀ g, b.st.sc.state = .running → b.st.sc.segment = some g → g.body.kind = .leakWait →
      b.tellLeakDone = b.segmentOver g .done) ∧
    (b.st.sc.state = .finishing → b.tellLeakDone = b.closeRecord false) ∧
    (b.st.sc.state = .stopping → b.tellLeakDone = if b.stopped then b.closeRecord false else b) ∧
    (b.st.sc.state = .held ∨ b.st.sc.state = .idle → b.tellLeakDone = b)

/-- 0.3, R85, R156: the command of a station's step leaves the timebase, the heads, the setups, the cell
settings and every other station as they were, and every record that is not its own; that the entries of a
leak activity reach no other record either rests on log entry 24. -/
def Obligations.StationStepsStayAtHome : Prop :=
  ∀ (s t : State) (i : StNo) (e : StEvent), exec (stationCommand i e) s = .next t →
    t.tb = s.tb ∧ t.heads = s.heads ∧ t.setups = s.setups ∧ t.cell = s.cell ∧
    t.supplyOk = s.supplyOk ∧ t.formatErrors = s.formatErrors ∧ t.pending = s.pending ∧
    t.queue.length = s.queue.length ∧
    (∀ j, j ≠ i → t.stations.get j = s.stations.get j) ∧
    ∀ k q, s.store.At k q → q.id ≠ (s.stations.get i).sc.recordId → q.id ≠ 0 → t.store.At k q

/-! ### Figures -/

/-- R85, R86, R87: the setpoint formed at a ring cycle event is the old one moved toward the target clamped to
Vmax, by at most the rate in force, 0 in a COAST stop, and never beyond Vmax. R84, R88, R89, R90, R94, R101:
with it come the enable and torque limit of the state, the reached mark (set while driving alone: that it is
never set in STOPPING is the model's choice, log entry 34), the CLAMPED mark (not at the event of the
segment's beginning, log entry 31), the dwell count of a DWELL and the steady flag, set when a driving
station's setpoint stands at its target and a fresh speed lies within the band. Steps 2 and 3 do no more, and
nothing for an IDLE station. -/
def Obligations.SetpointMovesByTheRate : Prop :=
  (∀ b : Bench, b.st.sc.state = .idle → b.work .form = b) ∧
  (∀ b : Bench, b.st.sc.state ≠ .idle → b.work .form = b.form ∧
    let old := b.st.dc
    let new := b.form.st.dc
    let driving := b.st.sc.state ≠ .stopping
    let raw : Int :=
      if b.st.sc.state = .stopping then 0 else (old.params.map Params.target).getD 0
    new.params = old.params ∧ b.form.st.sc = b.st.sc ∧ b.form.store = b.store ∧
    b.form.st.todo = b.st.todo ∧ new.devRun = old.devRun ∧ new.torqueRun = old.torqueRun ∧
    new.maxError = old.maxError ∧ new.maxTorque = old.maxTorque ∧ new.feedback = old.feedback ∧
    (driving → new.enable = true ∧ new.torqueLimit =
      match old.params.bind Params.torqueCheck with
      | some m => min m b.setup.maxTorque
      | none => b.setup.maxTorque) ∧
    (¬ driving → b.st.sc.stopKind = some .coast → new.enable = false ∧ new.torqueLimit = 0) ∧
    (¬ driving → b.st.sc.stopKind ≠ some .coast →
      new.enable = true ∧ new.torqueLimit = b.setup.maxTorque) ∧
    (new.reached = true ↔ old.reached = true ∨ (driving ∧ new.setpoint = new.formed)) ∧
    (new.clamped = true ↔ old.clamped = true ∨
      (b.st.sc.state = .running ∧ 1 ≤ b.st.sc.segTimer ∧ new.formed ≠ raw)) ∧
    (new.steady = true ↔ driving ∧ new.setpoint = old.setpoint ∧ new.setpoint = new.formed ∧
      ∃ v, b.speed = .fresh v ∧
        (v - new.setpoint).natAbs ≤ (old.params.map Params.band).getD 0) ∧
    ((∃ g, b.st.sc.segment = some g ∧ g.body.kind = .dwell) →
      new.dwell = if old.reached = true then min 10000000 (old.dwell + 1) else 0) ∧
    ((∀ g, b.st.sc.segment = some g → g.body.kind ≠ .dwell) → new.dwell = old.dwell)) ∧
  ∀ b : Bench, b.st.sc.state ≠ .idle →
    let v := min b.setup.maxSpeed b.cell.absMaxSpeed
    let t : Int := max (-(v : Int))
      (min (if b.st.sc.state = .stopping then 0 else (b.st.dc.params.map Params.target).getD 0) v)
    let q := if b.st.sc.state = .stopping then b.setup.stopRate
      else (b.st.dc.params.map Params.rate).getD 0
    b.form.st.dc.setpoint.natAbs ≤ v ∧ b.form.st.dc.formed = t ∧
    (b.st.sc.state = .stopping → b.st.sc.stopKind = some .coast → b.form.st.dc.setpoint = 0) ∧
    (¬ (b.st.sc.state = .stopping ∧ b.st.sc.stopKind = some .coast) →
      b.st.dc.setpoint.natAbs ≤ v →
      ((t - b.st.dc.setpoint).natAbs ≤ q → b.form.st.dc.setpoint = t) ∧
      (q < (t - b.st.dc.setpoint).natAbs →
        b.form.st.dc.setpoint = if b.st.dc.setpoint < t then b.st.dc.setpoint + q
          else b.st.dc.setpoint - q))

/-- R120: the magnitude of an accumulator pair whose scaled sums have squares below 2^58 is the exact integer
root of the sum of the squares, which is below 2^59, and lies below 2^30. -/
def Obligations.MagnitudeIsTheExactRoot : Prop :=
  ∀ a : Accum, (scale a.c).natAbs * (scale a.c).natAbs < 2 ^ 58 →
    (scale a.s).natAbs * (scale a.s).natAbs < 2 ^ 58 →
    let x := (scale a.c).natAbs * (scale a.c).natAbs + (scale a.s).natAbs * (scale a.s).natAbs
    x < 2 ^ 59 ∧ a.magnitude * a.magnitude ≤ x ∧ x < (a.magnitude + 1) * (a.magnitude + 1) ∧
    a.magnitude < 2 ^ 30

/-- R119, R121: a sum scales to the nearest integer, ties away from zero, and the level is 2G over E·N rounded
half up, saturated at 65535 with its mark. R117, R122, R123: the band of a window is the number of edges at or
below its speed; a COMPUTED undecided line counts the level against its limit in that band, a level equal to
the limit as clear, and the second exceed makes it FAIL, the second clear PASS; a decided line and one out of
range keep everything, and every line keeps its order, limits and class. -/
def Obligations.LevelsAreRounded : Prop :=
  (∀ (p : Point) (v : Nat), p.edge1 < p.edge2 → p.edge2 < p.edge3 →
    (v < p.edge1 → p.bandOf v = 0) ∧ (p.edge1 ≤ v → v < p.edge2 → p.bandOf v = 1) ∧
    (p.edge2 ≤ v → v < p.edge3 → p.bandOf v = 2) ∧ (p.edge3 ≤ v → p.bandOf v = 3)) ∧
  (∀ (band en : Nat) (ls : List PointLine) (as : List Accum), ls.length = as.length →
    voteAll band en ls as =
      List.zipWith (fun l a => l.count band (levelOf a.magnitude en)) ls as) ∧
  (∀ (band : Nat) (lv : Level) (l : PointLine),
    let most := if band = 0 then l.limits.b0 else if band = 1 then l.limits.b1
      else if band = 2 then l.limits.b2 else l.limits.b3
    (l.computed = false ∨ l.verdict ≠ .undecided → l.count band lv = l) ∧
    (l.computed = true → l.verdict = .undecided →
      (most < lv.level → l.count band lv = { l with
        levels := l.levels ++ [lv], lastBand := some band, exceed := l.exceed + 1
        verdict := if 1 ≤ l.exceed then .fail else .undecided }) ∧
      (lv.level ≤ most → l.count band lv = { l with
        levels := l.levels ++ [lv], lastBand := some band, clear := l.clear + 1
        verdict := if 1 ≤ l.clear then .pass else .undecided }))) ∧
  (∀ n : Nat, scale (n : Int) = ((n + 16384) / 32768 : Nat) ∧
    scale (-(n : Int)) = -(((n + 16384) / 32768 : Nat) : Int)) ∧
  ∀ g en : Nat, 0 < en →
    ((2 * g + en / 2) / en ≤ 65535 → levelOf g en = ⟨(2 * g + en / 2) / en, false⟩) ∧
    (65535 < (2 * g + en / 2) / en → levelOf g en = ⟨65535, true⟩)

/-- R155: with a slot FREE, the id of the next record is the first value after the id counter, counted modulo
65536, that is not 0 and not the id of a record held, and it comes within 17 rises. -/
def Obligations.NextIdIsFresh : Prop :=
  (∀ (t : Store) (n : Nat), t.holds n = true ↔
    ∃ (k : Nat) (q : Record), t.slots[k]? = some (some q) ∧ q.id = n) ∧
  ∀ t : Store, t.slots.length ≤ 16 → (∃ k : Nat, t.slots[k]? = some none) → t.idCounter ≤ 65535 →
    ∃ d, 1 ≤ d ∧ d ≤ 17 ∧ t.nextId = (t.idCounter + d) % 65536 ∧
      t.nextId ≠ 0 ∧ t.holds t.nextId = false ∧
      ∀ e, 1 ≤ e → e < d →
        (t.idCounter + e) % 65536 = 0 ∨ t.holds ((t.idCounter + e) % 65536) = true

/-- The model's order of due steps (log entry 1): once everything due has been done, no station has work left,
in any state, and what was due has been done as its command does it. A station with a step due does that step
and then goes on from the state its command leaves; with other work in front it does that work first; with
none it stays. The stations settle in order 0 to 3 (log entry 7); then LOSS_OF_SYNC is done of each head whose
run has reached 3, lowest node first; then the side chooses. With nothing due, settling is that choice alone.
A bench settles likewise within one station. -/
def Obligations.SettlingLeavesNothingDue : Prop :=
  (∀ s : State, s.settle.AllDone) ∧
  (∀ (s : State) (i : StNo),
    (∀ e rest, s.Due i e rest → ∃ t, exec (stationCommand i e) s = .next t ∧
      s.settleStation i = t.settleStation i) ∧
    (∀ t rest, (s.stations.get i).todo = t :: rest → (∀ e, t ≠ .due e) →
      s.settleStation i = (s.resumeWith i (t :: rest) (s.desk i)).settleStation i) ∧
    ((s.stations.get i).todo = [] → s.settleStation i = s)) ∧
  (∀ s : State,
    s.settleStations = (((s.settleStation 0).settleStation 1).settleStation 2).settleStation 3 ∧
    ((∀ n h, headOf s.heads n = some h → n ≤ 30 → h.run < 3) → s.settle = s.settleStations.pump ∧
      (s.AllDone → s.settle = s.pump)) ∧
    ∀ n h, n ≤ 30 → headOf s.heads n = some h → 3 ≤ h.run →
      (∀ m q, m < n → headOf s.heads m = some q → q.run < 3) →
      ∃ t, exec (.lossOfSync n) s = .next t ∧ s.settle = t.settle) ∧
  ∀ b : Bench,
    (∀ e rest, b.st.todo = .due e :: rest →
      let c := (b.setTodo []).perform e
      (c.st.todo = [] → b.settle = (runWork rest c).settle) ∧
      (c.st.todo ≠ [] → b.settle = (c.setTodo (c.st.todo ++ rest)).settle)) ∧
    (∀ t rest, b.st.todo = t :: rest → (∀ e, t ≠ .due e) → b.settle = (runWork b.st.todo b).settle) ∧
    (b.st.todo = [] → b.settle = b)

/-! ### Invariants -/

/-- R3, R18, R22, R168, R170: no step overfills a queue or takes a counter past 16 bits. -/
def Obligations.StepKeepsBounds : Prop :=
  ∀ s t : State, s.Bounded → step s = .next t → t.Bounded

/-- R81, R175: no step leaves a station in a safety stop without LINESTOP. -/
def Obligations.StepKeepsLineStop : Prop :=
  ∀ s t : State, s.LineStopHolds → step s = .next t → t.LineStopHolds

/-- R83, R87, R88, R98: no step leaves the drive of an IDLE or coasting station on, or a setpoint beyond
Vmax. -/
def Obligations.StepKeepsDrivesHeld : Prop :=
  ∀ s t : State, s.DrivesHeld → step s = .next t → t.DrivesHeld

/-- R52, R53, R54: after every step the in-use count of every recipe is the number of stations whose call
chain holds it, that of every variant slot the number of stations that use it, and those of every limit set
and angle table the numbers of stations listening by them. Each use and its end moves the count by 1. -/
def Obligations.StepKeepsRecipeCounts : Prop :=
  (∀ (l : Library) (k n : Nat),
    let more {α : Type} (t : List (Option α)) (k : Nat) (f : α → α) := t.modify k (Option.map f)
    l.useRecipe k = { l with recipes := more l.recipes k fun e => { e with inUse := e.inUse + 1 } } ∧
    l.dropRecipe k = { l with recipes := more l.recipes k fun e => { e with inUse := e.inUse - 1 } } ∧
    l.useVariant k = { l with variants := more l.variants k fun e => { e with inUse := e.inUse + 1 } } ∧
    l.dropVariant k = { l with variants := more l.variants k fun e => { e with inUse := e.inUse - 1 } } ∧
    l.useListen k n = { l with
      limits := more l.limits k fun e => { e with inUse := e.inUse + 1 }
      angles := more l.angles n fun e => { e with inUse := e.inUse + 1 } }) ∧
  (∀ s t : State, s.RecipeCounts → step s = .next t → t.RecipeCounts) ∧
  ∀ s t : State, s.UseCounts → step s = .next t → t.UseCounts

/-- R153, R155, R163: after every step the OPEN records are those of the stations that are not IDLE, ids are
distinct, and the close-order queue holds the CLOSED ones. -/
def Obligations.StepKeepsRecordsInAgreement : Prop :=
  ∀ s t : State, s.RecordsAgree → step s = .next t → t.RecordsAgree

/-- The state after power-on reset meets the invariants. -/
def Obligations.ResetMeetsTheInvariants : Prop :=
  State.reset.Bounded ∧ State.reset.LineStopHolds ∧ State.reset.DrivesHeld ∧
  State.reset.RecipeCounts ∧ State.reset.UseCounts ∧ State.reset.RecordsAgree ∧ State.reset.AllDone
end

