-- ==== Sys2Proof/Laws/State.lean ====
section
/-! SUPPORT. One lemma per field per update: stations of a Quad, a bench, and the state a bench is put back
into. -/

namespace Sys2Proof

@[simp] theorem Quad.get_set {α : Type} (q : Quad α) (i : StNo) (x : α) : (q.set i x).get i = x := by
  fin_cases i <;> rfl

theorem Quad.get_set_ne {α : Type} (q : Quad α) (i j : StNo) (x : α) (h : j ≠ i) :
    (q.set i x).get j = q.get j := by
  fin_cases i <;> fin_cases j <;> first | rfl | exact absurd rfl h

@[simp] theorem Quad.set_get {α : Type} (q : Quad α) (i : StNo) : q.set i (q.get i) = q := by
  fin_cases i <;> rfl

@[simp] theorem Quad.set_set {α : Type} (q : Quad α) (i : StNo) (x y : α) :
    (q.set i x).set i y = q.set i y := by
  fin_cases i <;> rfl

@[simp] theorem Quad.get_all {α : Type} (x : α) (i : StNo) : (Quad.all x).get i = x := by
  fin_cases i <;> rfl

theorem Quad.ext_get {α : Type} {p q : Quad α} (h : ∀ i, p.get i = q.get i) : p = q := by
  have h0 := h 0
  have h1 := h 1
  have h2 := h 2
  have h3 := h 3
  cases p
  cases q
  simp_all [Quad.get]

theorem Quad.mem_toList {α : Type} (q : Quad α) (x : α) : x ∈ q.toList ↔ ∃ i, q.get i = x := by
  constructor
  · intro h
    simp only [Quad.toList, List.mem_cons, List.not_mem_nil, or_false] at h
    rcases h with h | h | h | h
    · exact ⟨0, h.symm⟩
    · exact ⟨1, h.symm⟩
    · exact ⟨2, h.symm⟩
    · exact ⟨3, h.symm⟩
  · rintro ⟨i, rfl⟩
    fin_cases i <;> simp [Quad.toList, Quad.get]

namespace Machine

variable (b : Bench)

@[simp] theorem Bench.setSc_mode (x : Context) : (b.setSc x).st.mode = b.st.mode := rfl
@[simp] theorem Bench.setSc_sc (x : Context) : (b.setSc x).st.sc = x := rfl
@[simp] theorem Bench.setSc_dc (x : Context) : (b.setSc x).st.dc = b.st.dc := rfl
@[simp] theorem Bench.setSc_aw (x : Context) : (b.setSc x).st.aw = b.st.aw := rfl
@[simp] theorem Bench.setSc_point (x : Context) : (b.setSc x).st.point = b.st.point := rfl
@[simp] theorem Bench.setSc_lu (x : Context) : (b.setSc x).st.lu = b.st.lu := rfl
@[simp] theorem Bench.setSc_ou (x : Context) : (b.setSc x).st.ou = b.st.ou := rfl
@[simp] theorem Bench.setSc_ready (x : Context) : (b.setSc x).st.ready = b.st.ready := rfl
@[simp] theorem Bench.setSc_todo (x : Context) : (b.setSc x).st.todo = b.st.todo := rfl
@[simp] theorem Bench.setSc_me (x : Context) : (b.setSc x).me = b.me := rfl
@[simp] theorem Bench.setSc_now (x : Context) : (b.setSc x).now = b.now := rfl
@[simp] theorem Bench.setSc_heads (x : Context) : (b.setSc x).heads = b.heads := rfl
@[simp] theorem Bench.setSc_supplyOk (x : Context) : (b.setSc x).supplyOk = b.supplyOk := rfl
@[simp] theorem Bench.setSc_setup (x : Context) : (b.setSc x).setup = b.setup := rfl
@[simp] theorem Bench.setSc_cell (x : Context) : (b.setSc x).cell = b.cell := rfl
@[simp] theorem Bench.setSc_lib (x : Context) : (b.setSc x).lib = b.lib := rfl
@[simp] theorem Bench.setSc_store (x : Context) : (b.setSc x).store = b.store := rfl
@[simp] theorem Bench.setSc_flags (x : Context) : (b.setSc x).flags = b.flags := rfl
@[simp] theorem Bench.setSc_lineStop (x : Context) : (b.setSc x).lineStop = b.lineStop := rfl

@[simp] theorem Bench.setDc_mode (x : Drive) : (b.setDc x).st.mode = b.st.mode := rfl
@[simp] theorem Bench.setDc_sc (x : Drive) : (b.setDc x).st.sc = b.st.sc := rfl
@[simp] theorem Bench.setDc_dc (x : Drive) : (b.setDc x).st.dc = x := rfl
@[simp] theorem Bench.setDc_aw (x : Drive) : (b.setDc x).st.aw = b.st.aw := rfl
@[simp] theorem Bench.setDc_point (x : Drive) : (b.setDc x).st.point = b.st.point := rfl
@[simp] theorem Bench.setDc_lu (x : Drive) : (b.setDc x).st.lu = b.st.lu := rfl
@[simp] theorem Bench.setDc_ou (x : Drive) : (b.setDc x).st.ou = b.st.ou := rfl
@[simp] theorem Bench.setDc_ready (x : Drive) : (b.setDc x).st.ready = b.st.ready := rfl
@[simp] theorem Bench.setDc_todo (x : Drive) : (b.setDc x).st.todo = b.st.todo := rfl
@[simp] theorem Bench.setDc_me (x : Drive) : (b.setDc x).me = b.me := rfl
@[simp] theorem Bench.setDc_now (x : Drive) : (b.setDc x).now = b.now := rfl
@[simp] theorem Bench.setDc_heads (x : Drive) : (b.setDc x).heads = b.heads := rfl
@[simp] theorem Bench.setDc_supplyOk (x : Drive) : (b.setDc x).supplyOk = b.supplyOk := rfl
@[simp] theorem Bench.setDc_setup (x : Drive) : (b.setDc x).setup = b.setup := rfl
@[simp] theorem Bench.setDc_cell (x : Drive) : (b.setDc x).cell = b.cell := rfl
@[simp] theorem Bench.setDc_lib (x : Drive) : (b.setDc x).lib = b.lib := rfl
@[simp] theorem Bench.setDc_store (x : Drive) : (b.setDc x).store = b.store := rfl
@[simp] theorem Bench.setDc_flags (x : Drive) : (b.setDc x).flags = b.flags := rfl
@[simp] theorem Bench.setDc_lineStop (x : Drive) : (b.setDc x).lineStop = b.lineStop := rfl

@[simp] theorem Bench.setAw_mode (x : AngleUnit) : (b.setAw x).st.mode = b.st.mode := rfl
@[simp] theorem Bench.setAw_sc (x : AngleUnit) : (b.setAw x).st.sc = b.st.sc := rfl
@[simp] theorem Bench.setAw_dc (x : AngleUnit) : (b.setAw x).st.dc = b.st.dc := rfl
@[simp] theorem Bench.setAw_aw (x : AngleUnit) : (b.setAw x).st.aw = x := rfl
@[simp] theorem Bench.setAw_point (x : AngleUnit) : (b.setAw x).st.point = b.st.point := rfl
@[simp] theorem Bench.setAw_lu (x : AngleUnit) : (b.setAw x).st.lu = b.st.lu := rfl
@[simp] theorem Bench.setAw_ou (x : AngleUnit) : (b.setAw x).st.ou = b.st.ou := rfl
@[simp] theorem Bench.setAw_ready (x : AngleUnit) : (b.setAw x).st.ready = b.st.ready := rfl
@[simp] theorem Bench.setAw_todo (x : AngleUnit) : (b.setAw x).st.todo = b.st.todo := rfl
@[simp] theorem Bench.setAw_me (x : AngleUnit) : (b.setAw x).me = b.me := rfl
@[simp] theorem Bench.setAw_now (x : AngleUnit) : (b.setAw x).now = b.now := rfl
@[simp] theorem Bench.setAw_heads (x : AngleUnit) : (b.setAw x).heads = b.heads := rfl
@[simp] theorem Bench.setAw_supplyOk (x : AngleUnit) : (b.setAw x).supplyOk = b.supplyOk := rfl
@[simp] theorem Bench.setAw_setup (x : AngleUnit) : (b.setAw x).setup = b.setup := rfl
@[simp] theorem Bench.setAw_cell (x : AngleUnit) : (b.setAw x).cell = b.cell := rfl
@[simp] theorem Bench.setAw_lib (x : AngleUnit) : (b.setAw x).lib = b.lib := rfl
@[simp] theorem Bench.setAw_store (x : AngleUnit) : (b.setAw x).store = b.store := rfl
@[simp] theorem Bench.setAw_flags (x : AngleUnit) : (b.setAw x).flags = b.flags := rfl
@[simp] theorem Bench.setAw_lineStop (x : AngleUnit) : (b.setAw x).lineStop = b.lineStop := rfl

@[simp] theorem Bench.setPoint_mode (x : Option Point) : (b.setPoint x).st.mode = b.st.mode := rfl
@[simp] theorem Bench.setPoint_sc (x : Option Point) : (b.setPoint x).st.sc = b.st.sc := rfl
@[simp] theorem Bench.setPoint_dc (x : Option Point) : (b.setPoint x).st.dc = b.st.dc := rfl
@[simp] theorem Bench.setPoint_aw (x : Option Point) : (b.setPoint x).st.aw = b.st.aw := rfl
@[simp] theorem Bench.setPoint_point (x : Option Point) : (b.setPoint x).st.point = x := rfl
@[simp] theorem Bench.setPoint_lu (x : Option Point) : (b.setPoint x).st.lu = b.st.lu := rfl
@[simp] theorem Bench.setPoint_ou (x : Option Point) : (b.setPoint x).st.ou = b.st.ou := rfl
@[simp] theorem Bench.setPoint_ready (x : Option Point) : (b.setPoint x).st.ready = b.st.ready := rfl
@[simp] theorem Bench.setPoint_todo (x : Option Point) : (b.setPoint x).st.todo = b.st.todo := rfl
@[simp] theorem Bench.setPoint_me (x : Option Point) : (b.setPoint x).me = b.me := rfl
@[simp] theorem Bench.setPoint_now (x : Option Point) : (b.setPoint x).now = b.now := rfl
@[simp] theorem Bench.setPoint_heads (x : Option Point) : (b.setPoint x).heads = b.heads := rfl
@[simp] theorem Bench.setPoint_supplyOk (x : Option Point) : (b.setPoint x).supplyOk = b.supplyOk := rfl
@[simp] theorem Bench.setPoint_setup (x : Option Point) : (b.setPoint x).setup = b.setup := rfl
@[simp] theorem Bench.setPoint_cell (x : Option Point) : (b.setPoint x).cell = b.cell := rfl
@[simp] theorem Bench.setPoint_lib (x : Option Point) : (b.setPoint x).lib = b.lib := rfl
@[simp] theorem Bench.setPoint_store (x : Option Point) : (b.setPoint x).store = b.store := rfl
@[simp] theorem Bench.setPoint_flags (x : Option Point) : (b.setPoint x).flags = b.flags := rfl
@[simp] theorem Bench.setPoint_lineStop (x : Option Point) : (b.setPoint x).lineStop = b.lineStop := rfl

@[simp] theorem Bench.setLu_mode (x : Option Activity) : (b.setLu x).st.mode = b.st.mode := rfl
@[simp] theorem Bench.setLu_sc (x : Option Activity) : (b.setLu x).st.sc = b.st.sc := rfl
@[simp] theorem Bench.setLu_dc (x : Option Activity) : (b.setLu x).st.dc = b.st.dc := rfl
@[simp] theorem Bench.setLu_aw (x : Option Activity) : (b.setLu x).st.aw = b.st.aw := rfl
@[simp] theorem Bench.setLu_point (x : Option Activity) : (b.setLu x).st.point = b.st.point := rfl
@[simp] theorem Bench.setLu_lu (x : Option Activity) : (b.setLu x).st.lu = x := rfl
@[simp] theorem Bench.setLu_ou (x : Option Activity) : (b.setLu x).st.ou = b.st.ou := rfl
@[simp] theorem Bench.setLu_ready (x : Option Activity) : (b.setLu x).st.ready = b.st.ready := rfl
@[simp] theorem Bench.setLu_todo (x : Option Activity) : (b.setLu x).st.todo = b.st.todo := rfl
@[simp] theorem Bench.setLu_me (x : Option Activity) : (b.setLu x).me = b.me := rfl
@[simp] theorem Bench.setLu_now (x : Option Activity) : (b.setLu x).now = b.now := rfl
@[simp] theorem Bench.setLu_heads (x : Option Activity) : (b.setLu x).heads = b.heads := rfl
@[simp] theorem Bench.setLu_supplyOk (x : Option Activity) : (b.setLu x).supplyOk = b.supplyOk := rfl
@[simp] theorem Bench.setLu_setup (x : Option Activity) : (b.setLu x).setup = b.setup := rfl
@[simp] theorem Bench.setLu_cell (x : Option Activity) : (b.setLu x).cell = b.cell := rfl
@[simp] theorem Bench.setLu_lib (x : Option Activity) : (b.setLu x).lib = b.lib := rfl
@[simp] theorem Bench.setLu_store (x : Option Activity) : (b.setLu x).store = b.store := rfl
@[simp] theorem Bench.setLu_flags (x : Option Activity) : (b.setLu x).flags = b.flags := rfl
@[simp] theorem Bench.setLu_lineStop (x : Option Activity) : (b.setLu x).lineStop = b.lineStop := rfl

@[simp] theorem Bench.setOu_mode (x : Output) : (b.setOu x).st.mode = b.st.mode := rfl
@[simp] theorem Bench.setOu_sc (x : Output) : (b.setOu x).st.sc = b.st.sc := rfl
@[simp] theorem Bench.setOu_dc (x : Output) : (b.setOu x).st.dc = b.st.dc := rfl
@[simp] theorem Bench.setOu_aw (x : Output) : (b.setOu x).st.aw = b.st.aw := rfl
@[simp] theorem Bench.setOu_point (x : Output) : (b.setOu x).st.point = b.st.point := rfl
@[simp] theorem Bench.setOu_lu (x : Output) : (b.setOu x).st.lu = b.st.lu := rfl
@[simp] theorem Bench.setOu_ou (x : Output) : (b.setOu x).st.ou = x := rfl
@[simp] theorem Bench.setOu_ready (x : Output) : (b.setOu x).st.ready = b.st.ready := rfl
@[simp] theorem Bench.setOu_todo (x : Output) : (b.setOu x).st.todo = b.st.todo := rfl
@[simp] theorem Bench.setOu_me (x : Output) : (b.setOu x).me = b.me := rfl
@[simp] theorem Bench.setOu_now (x : Output) : (b.setOu x).now = b.now := rfl
@[simp] theorem Bench.setOu_heads (x : Output) : (b.setOu x).heads = b.heads := rfl
@[simp] theorem Bench.setOu_supplyOk (x : Output) : (b.setOu x).supplyOk = b.supplyOk := rfl
@[simp] theorem Bench.setOu_setup (x : Output) : (b.setOu x).setup = b.setup := rfl
@[simp] theorem Bench.setOu_cell (x : Output) : (b.setOu x).cell = b.cell := rfl
@[simp] theorem Bench.setOu_lib (x : Output) : (b.setOu x).lib = b.lib := rfl
@[simp] theorem Bench.setOu_store (x : Output) : (b.setOu x).store = b.store := rfl
@[simp] theorem Bench.setOu_flags (x : Output) : (b.setOu x).flags = b.flags := rfl
@[simp] theorem Bench.setOu_lineStop (x : Output) : (b.setOu x).lineStop = b.lineStop := rfl

@[simp] theorem Bench.setMode_mode (x : RunMode) : (b.setMode x).st.mode = x := rfl
@[simp] theorem Bench.setMode_sc (x : RunMode) : (b.setMode x).st.sc = b.st.sc := rfl
@[simp] theorem Bench.setMode_dc (x : RunMode) : (b.setMode x).st.dc = b.st.dc := rfl
@[simp] theorem Bench.setMode_aw (x : RunMode) : (b.setMode x).st.aw = b.st.aw := rfl
@[simp] theorem Bench.setMode_point (x : RunMode) : (b.setMode x).st.point = b.st.point := rfl
@[simp] theorem Bench.setMode_lu (x : RunMode) : (b.setMode x).st.lu = b.st.lu := rfl
@[simp] theorem Bench.setMode_ou (x : RunMode) : (b.setMode x).st.ou = b.st.ou := rfl
@[simp] theorem Bench.setMode_ready (x : RunMode) : (b.setMode x).st.ready = b.st.ready := rfl
@[simp] theorem Bench.setMode_todo (x : RunMode) : (b.setMode x).st.todo = b.st.todo := rfl
@[simp] theorem Bench.setMode_me (x : RunMode) : (b.setMode x).me = b.me := rfl
@[simp] theorem Bench.setMode_now (x : RunMode) : (b.setMode x).now = b.now := rfl
@[simp] theorem Bench.setMode_heads (x : RunMode) : (b.setMode x).heads = b.heads := rfl
@[simp] theorem Bench.setMode_supplyOk (x : RunMode) : (b.setMode x).supplyOk = b.supplyOk := rfl
@[simp] theorem Bench.setMode_setup (x : RunMode) : (b.setMode x).setup = b.setup := rfl
@[simp] theorem Bench.setMode_cell (x : RunMode) : (b.setMode x).cell = b.cell := rfl
@[simp] theorem Bench.setMode_lib (x : RunMode) : (b.setMode x).lib = b.lib := rfl
@[simp] theorem Bench.setMode_store (x : RunMode) : (b.setMode x).store = b.store := rfl
@[simp] theorem Bench.setMode_flags (x : RunMode) : (b.setMode x).flags = b.flags := rfl
@[simp] theorem Bench.setMode_lineStop (x : RunMode) : (b.setMode x).lineStop = b.lineStop := rfl

@[simp] theorem Bench.setTodo_mode (x : List Todo) : (b.setTodo x).st.mode = b.st.mode := rfl
@[simp] theorem Bench.setTodo_sc (x : List Todo) : (b.setTodo x).st.sc = b.st.sc := rfl
@[simp] theorem Bench.setTodo_dc (x : List Todo) : (b.setTodo x).st.dc = b.st.dc := rfl
@[simp] theorem Bench.setTodo_aw (x : List Todo) : (b.setTodo x).st.aw = b.st.aw := rfl
@[simp] theorem Bench.setTodo_point (x : List Todo) : (b.setTodo x).st.point = b.st.point := rfl
@[simp] theorem Bench.setTodo_lu (x : List Todo) : (b.setTodo x).st.lu = b.st.lu := rfl
@[simp] theorem Bench.setTodo_ou (x : List Todo) : (b.setTodo x).st.ou = b.st.ou := rfl
@[simp] theorem Bench.setTodo_ready (x : List Todo) : (b.setTodo x).st.ready = b.st.ready := rfl
@[simp] theorem Bench.setTodo_todo (x : List Todo) : (b.setTodo x).st.todo = x := rfl
@[simp] theorem Bench.setTodo_me (x : List Todo) : (b.setTodo x).me = b.me := rfl
@[simp] theorem Bench.setTodo_now (x : List Todo) : (b.setTodo x).now = b.now := rfl
@[simp] theorem Bench.setTodo_heads (x : List Todo) : (b.setTodo x).heads = b.heads := rfl
@[simp] theorem Bench.setTodo_supplyOk (x : List Todo) : (b.setTodo x).supplyOk = b.supplyOk := rfl
@[simp] theorem Bench.setTodo_setup (x : List Todo) : (b.setTodo x).setup = b.setup := rfl
@[simp] theorem Bench.setTodo_cell (x : List Todo) : (b.setTodo x).cell = b.cell := rfl
@[simp] theorem Bench.setTodo_lib (x : List Todo) : (b.setTodo x).lib = b.lib := rfl
@[simp] theorem Bench.setTodo_store (x : List Todo) : (b.setTodo x).store = b.store := rfl
@[simp] theorem Bench.setTodo_flags (x : List Todo) : (b.setTodo x).flags = b.flags := rfl
@[simp] theorem Bench.setTodo_lineStop (x : List Todo) : (b.setTodo x).lineStop = b.lineStop := rfl

@[simp] theorem Bench.setLib_st (x : Library) : (b.setLib x).st = b.st := rfl
@[simp] theorem Bench.setLib_me (x : Library) : (b.setLib x).me = b.me := rfl
@[simp] theorem Bench.setLib_now (x : Library) : (b.setLib x).now = b.now := rfl
@[simp] theorem Bench.setLib_heads (x : Library) : (b.setLib x).heads = b.heads := rfl
@[simp] theorem Bench.setLib_supplyOk (x : Library) : (b.setLib x).supplyOk = b.supplyOk := rfl
@[simp] theorem Bench.setLib_setup (x : Library) : (b.setLib x).setup = b.setup := rfl
@[simp] theorem Bench.setLib_cell (x : Library) : (b.setLib x).cell = b.cell := rfl
@[simp] theorem Bench.setLib_lib (x : Library) : (b.setLib x).lib = x := rfl
@[simp] theorem Bench.setLib_store (x : Library) : (b.setLib x).store = b.store := rfl
@[simp] theorem Bench.setLib_flags (x : Library) : (b.setLib x).flags = b.flags := rfl
@[simp] theorem Bench.setLib_lineStop (x : Library) : (b.setLib x).lineStop = b.lineStop := rfl

@[simp] theorem Bench.setStore_st (x : Store) : (b.setStore x).st = b.st := rfl
@[simp] theorem Bench.setStore_me (x : Store) : (b.setStore x).me = b.me := rfl
@[simp] theorem Bench.setStore_now (x : Store) : (b.setStore x).now = b.now := rfl
@[simp] theorem Bench.setStore_heads (x : Store) : (b.setStore x).heads = b.heads := rfl
@[simp] theorem Bench.setStore_supplyOk (x : Store) : (b.setStore x).supplyOk = b.supplyOk := rfl
@[simp] theorem Bench.setStore_setup (x : Store) : (b.setStore x).setup = b.setup := rfl
@[simp] theorem Bench.setStore_cell (x : Store) : (b.setStore x).cell = b.cell := rfl
@[simp] theorem Bench.setStore_lib (x : Store) : (b.setStore x).lib = b.lib := rfl
@[simp] theorem Bench.setStore_store (x : Store) : (b.setStore x).store = x := rfl
@[simp] theorem Bench.setStore_flags (x : Store) : (b.setStore x).flags = b.flags := rfl
@[simp] theorem Bench.setStore_lineStop (x : Store) : (b.setStore x).lineStop = b.lineStop := rfl

/-! ### A bench taken from the state and put back -/

variable (s : State) (i : StNo)

@[simp] theorem State.bench_me : (s.bench i).me = i := rfl
@[simp] theorem State.bench_now : (s.bench i).now = s.tb.cycle := rfl
@[simp] theorem State.bench_heads : (s.bench i).heads = s.heads := rfl
@[simp] theorem State.bench_supplyOk : (s.bench i).supplyOk = s.supplyOk := rfl
@[simp] theorem State.bench_setup : (s.bench i).setup = s.setups.get i := rfl
@[simp] theorem State.bench_cell : (s.bench i).cell = s.cell := rfl
@[simp] theorem State.bench_lib : (s.bench i).lib = s.lib := rfl
@[simp] theorem State.bench_store : (s.bench i).store = s.store := rfl
@[simp] theorem State.bench_flags : (s.bench i).flags = s.flags := rfl
@[simp] theorem State.bench_lineStop : (s.bench i).lineStop = s.lineStop := rfl
@[simp] theorem State.bench_st : (s.bench i).st = s.stations.get i := rfl

@[simp] theorem State.putBench_pending : (s.putBench i b).pending = s.pending := rfl
@[simp] theorem State.putBench_rp : (s.putBench i b).rp = s.rp := rfl
@[simp] theorem State.putBench_tb : (s.putBench i b).tb = s.tb := rfl
@[simp] theorem State.putBench_heads : (s.putBench i b).heads = s.heads := rfl
@[simp] theorem State.putBench_formatErrors : (s.putBench i b).formatErrors = s.formatErrors := rfl
@[simp] theorem State.putBench_supplyOk : (s.putBench i b).supplyOk = s.supplyOk := rfl
@[simp] theorem State.putBench_queue : (s.putBench i b).queue = s.queue := rfl
@[simp] theorem State.putBench_flags : (s.putBench i b).flags = b.flags := rfl
@[simp] theorem State.putBench_lib : (s.putBench i b).lib = b.lib := rfl
@[simp] theorem State.putBench_setups : (s.putBench i b).setups = s.setups := rfl
@[simp] theorem State.putBench_cell : (s.putBench i b).cell = s.cell := rfl
@[simp] theorem State.putBench_store : (s.putBench i b).store = b.store := rfl
@[simp] theorem State.putBench_stations : (s.putBench i b).stations = s.stations.set i b.st := rfl
@[simp] theorem State.putBench_lineStop : (s.putBench i b).lineStop = b.lineStop := rfl

theorem State.putBench_get : (s.putBench i b).stations.get i = b.st := by simp

theorem State.putBench_get_ne (j : StNo) (h : j ≠ i) :
    (s.putBench i b).stations.get j = s.stations.get j := by
  simp [Quad.get_set_ne _ _ _ _ h]

/-- A bench put back as it was taken changes nothing. -/
@[simp] theorem State.putBench_bench : s.putBench i (s.bench i) = s := by
  cases s
  simp [State.putBench, State.bench]

end Machine

end Sys2Proof
end

