-- ==== Sys2Proof/Laws/Around.lean ====
section
/-! SUPPORT. What a station's blocks read from around them is the same after every operation of theirs: its
number, the local cycle number, the head table, the supply state, its setup and the cell settings. -/

namespace Sys2Proof.Machine

/-- What a bench reads and never writes. -/
structure Around where
  me : StNo
  now : Word
  heads : List HeadEntry
  supplyOk : Bool
  setup : Setup
  cell : CellSettings

def Bench.around (b : Bench) : Around := ⟨b.me, b.now, b.heads, b.supplyOk, b.setup, b.cell⟩

theorem Bench.around_eq {b c : Bench} (h : b.around = c.around) :
    b.me = c.me ∧ b.now = c.now ∧ b.heads = c.heads ∧ b.supplyOk = c.supplyOk ∧ b.setup = c.setup
      ∧ b.cell = c.cell := by
  simpa [Bench.around] using h

variable (b : Bench)

@[simp] theorem Bench.setSc_around (x : Context) : (b.setSc x).around = b.around := rfl
@[simp] theorem Bench.setDc_around (x : Drive) : (b.setDc x).around = b.around := rfl
@[simp] theorem Bench.setAw_around (x : AngleUnit) : (b.setAw x).around = b.around := rfl
@[simp] theorem Bench.setPoint_around (x : Option Point) : (b.setPoint x).around = b.around := rfl
@[simp] theorem Bench.setLu_around (x : Option Activity) : (b.setLu x).around = b.around := rfl
@[simp] theorem Bench.setOu_around (x : Output) : (b.setOu x).around = b.around := rfl
@[simp] theorem Bench.setMode_around (x : RunMode) : (b.setMode x).around = b.around := rfl
@[simp] theorem Bench.setTodo_around (x : List Todo) : (b.setTodo x).around = b.around := rfl
@[simp] theorem Bench.setLib_around (x : Library) : (b.setLib x).around = b.around := rfl
@[simp] theorem Bench.setStore_around (x : Store) : (b.setStore x).around = b.around := rfl

@[simp] theorem Bench.raise_around (e : StEvent) : (b.raise e).around = b.around := rfl

@[simp] theorem Bench.follow_around : (b.follow).around = b.around := by
  unfold Bench.follow
  repeat' split
  all_goals simp

@[simp] theorem Bench.recordDefect_around (c : DefectCode) : (b.recordDefect c).around = b.around := rfl

@[simp] theorem Bench.testCutOff_around : (b.testCutOff).around = b.around := by
  unfold Bench.testCutOff
  repeat' split
  all_goals simp

@[simp] theorem Bench.voidWindow_around (r : VoidReason) (v : Option Nat) : (b.voidWindow r v).around = b.around := by
  unfold Bench.voidWindow
  repeat' split
  all_goals simp

@[simp] theorem Bench.leakDefect_around (k : Nat) (c : Option DefectCode) : (b.leakDefect k c).around = b.around := by
  unfold Bench.leakDefect
  repeat' split
  all_goals simp

@[simp] theorem Bench.placeLeak_around (k : Nat) (x : LeakResult) : (b.placeLeak k x).around = b.around := by
  unfold Bench.placeLeak
  repeat' split
  all_goals simp

@[simp] theorem Bench.fixLeak_around (x : LeakOutcome) (r : Option LeakReason) (c : Option DefectCode) : (b.fixLeak x r c).around = b.around := by
  unfold Bench.fixLeak
  repeat' split
  all_goals simp

@[simp] theorem Bench.abortLeak_around : (b.abortLeak).around = b.around := by
  unfold Bench.abortLeak
  simp

@[simp] theorem Bench.becomeIdle_around : (b.becomeIdle).around = b.around := rfl

@[simp] theorem Bench.releaseVariant_around : (b.releaseVariant).around = b.around := by
  unfold Bench.releaseVariant
  repeat' split
  all_goals simp

@[simp] theorem Bench.tellVerdict_around (q : Bool) (v : Option Verdict) : (b.tellVerdict q v).around = b.around := by
  unfold Bench.tellVerdict
  repeat' split
  all_goals simp

@[simp] theorem Bench.closeRecord_around (q : Bool) : (b.closeRecord q).around = b.around := by
  unfold Bench.closeRecord
  split
  · rfl
  · simp
    rfl

@[simp] theorem Bench.appendSegment_around (x : SegResult) : (b.appendSegment x).around = b.around := rfl

@[simp] theorem Bench.endListen_around : (b.endListen).around = b.around := by
  unfold Bench.endListen
  repeat' split
  all_goals simp

@[simp] theorem Bench.finishSegment_around (g : Segment) (x : SegOutcome) : (b.finishSegment g x).around = b.around := by
  unfold Bench.finishSegment
  simp

@[simp] theorem Bench.abandonSegment_around : (b.abandonSegment).around = b.around := by
  unfold Bench.abandonSegment
  repeat' split
  all_goals simp

@[simp] theorem Bench.clearChain_around : (b.clearChain).around = b.around := rfl

@[simp] theorem Bench.coast_around : (b.coast).around = b.around := rfl

@[simp] theorem Bench.enterStopping_around (k : StopKind) (r : StopReason) : (b.enterStopping k r).around = b.around := by
  unfold Bench.enterStopping
  split
  · cases k <;> simp
  · rfl

@[simp] theorem Bench.faultTest_around (c : DefectCode) : (b.faultTest c).around = b.around := by
  unfold Bench.faultTest
  simp

@[simp] theorem Bench.trip_around (c : DefectCode) : (b.trip c).around = b.around := by
  have flags : ∀ (b' : Bench) (l : Bool) (f : Flags),
      Bench.around { b' with lineStop := l, flags := f } = b'.around := fun _ _ _ => rfl
  unfold Bench.trip
  split
  · rfl
  · dsimp only
    split <;> simp [flags]

@[simp] theorem Bench.stopTest_around : (b.stopTest).around = b.around := by
  unfold Bench.stopTest
  repeat' split
  all_goals simp

@[simp] theorem Bench.stopLimit_around : (b.stopLimit).around = b.around := by
  unfold Bench.stopLimit
  repeat' split
  all_goals simp

@[simp] theorem Bench.holdAt_around (r : HoldReason) (k : Nat) : (b.holdAt r k).around = b.around := by
  unfold Bench.holdAt
  simp

@[simp] theorem Bench.endOfTest_around : (b.endOfTest).around = b.around := by
  unfold Bench.endOfTest
  repeat' split
  all_goals simp

/-- The bench a piece of stepping has come to. -/
def Flow.bench : Flow → Bench
  | .halt b => b
  | .reach _ b => b

/-- The bench that beginning a segment has come to. -/
def Begun.bench : Begun → Bench
  | .running b => b
  | .ended _ b => b
  | .faulted b => b

@[simp] theorem Flow.bench_halt : (Flow.halt b).bench = b := rfl
@[simp] theorem Flow.bench_reach (k : Nat) : (Flow.reach k b).bench = b := rfl
@[simp] theorem Begun.bench_running : (Begun.running b).bench = b := rfl
@[simp] theorem Begun.bench_ended (x : SegOutcome) : (Begun.ended x b).bench = b := rfl
@[simp] theorem Begun.bench_faulted : (Begun.faulted b).bench = b := rfl

@[simp] theorem Bench.afterSegment_around (x : SegOutcome) : (b.afterSegment x).bench.around = b.around := by
  unfold Bench.afterSegment
  repeat' split
  all_goals simp

@[simp] theorem Bench.call_around (r k : Nat) : (b.call r k).bench.around = b.around := by
  unfold Bench.call
  repeat' split
  all_goals simp

@[simp] theorem Bench.chainTo_around (r : Nat) : (b.chainTo r).bench.around = b.around := by
  unfold Bench.chainTo
  repeat' split
  all_goals simp

@[simp] theorem Bench.finish_around : (b.finish).bench.around = b.around := by
  unfold Bench.finish
  repeat' split
  all_goals simp

@[simp] theorem Bench.takeUp_around (g : Segment) (k : Nat) : (b.takeUp g k).around = b.around := by
  unfold Bench.takeUp
  simp

@[simp] theorem Bench.faultListen_around (c : DefectCode) (k : Nat) : (b.faultListen c k).around = b.around := by
  unfold Bench.faultListen
  simp

@[simp] theorem Bench.writePoint_around : (b.writePoint).around = b.around := by
  unfold Bench.writePoint
  repeat' split
  all_goals simp

@[simp] theorem Bench.startLeak_around (p : LeakParams) : (b.startLeak p).around = b.around := by
  unfold Bench.startLeak
  dsimp only
  split <;> rfl

@[simp] theorem Bench.beginListen_around (g : Segment) (k n rev ma tl : Nat) :
    (b.beginListen g k n rev ma tl).bench.around = b.around := by
  unfold Bench.beginListen
  split
  · simp
  · split
    · simp
    · dsimp only
      split <;> simp

@[simp] theorem Bench.beginSegment_around (g : Segment) (k : Nat) :
    (b.beginSegment g k).bench.around = b.around := by
  unfold Bench.beginSegment
  split
  · simp
  · dsimp only
    split <;> simp
  · dsimp only
    split <;> simp
  · simp

@[simp] theorem Begun.next_around (g : Segment) (x : Begun) :
    (x.next g).bench.around = x.bench.around := by
  cases x <;> simp [Begun.next]

@[simp] theorem Bench.reachOne_around (k : Nat) : (b.reachOne k).bench.around = b.around := by
  unfold Bench.reachOne
  repeat' split
  all_goals simp

@[simp] theorem advance_around (n k : Nat) : (advance n k b).around = b.around := by
  induction n generalizing k b with
  | zero => rfl
  | succ n ih =>
    have h1 : b.countSegment.around = b.around := rfl
    have h2 := Bench.reachOne_around b.countSegment k
    unfold advance
    dsimp only
    split
    · simp [h1]
    · split
      · rename_i b' hb
        rw [hb] at h2
        simpa [h1] using h2
      · rename_i idx b' hb
        rw [hb] at h2
        simpa [h1, ih] using h2

@[simp] theorem Flow.run_around (f : Flow) : f.run.around = f.bench.around := by
  cases f <;> simp [Flow.run]

@[simp] theorem Bench.endSegment_around (x : SegOutcome) : (b.endSegment x).around = b.around := by
  unfold Bench.endSegment
  repeat' split
  all_goals simp

@[simp] theorem Bench.testTrip_around (c : DefectCode) (h l : Bool) (f : Bool → Drive → Drive) : (b.testTrip c h l f).around = b.around := by
  unfold Bench.testTrip
  dsimp only
  split <;> simp

@[simp] theorem Bench.trips_around : (b.trips).around = b.around := by
  unfold Bench.trips
  split
  · rfl
  · dsimp only
    split <;> simp

@[simp] theorem Bench.feedbackLost_around : (b.feedbackLost).around = b.around := by
  unfold Bench.feedbackLost
  simp

@[simp] theorem Bench.speedDeviation_around : (b.speedDeviation).around = b.around := by
  unfold Bench.speedDeviation
  split
  · dsimp only
    split <;> simp
  · rfl

@[simp] theorem Bench.torqueLimit_around : (b.torqueLimit).around = b.around := by
  unfold Bench.torqueLimit
  repeat' split
  all_goals simp

@[simp] theorem Bench.rampDone_around : (b.rampDone).around = b.around := by
  unfold Bench.rampDone
  repeat' split
  all_goals simp

@[simp] theorem Bench.speedNotReached_around : (b.speedNotReached).around = b.around := by
  unfold Bench.speedNotReached
  repeat' split
  all_goals simp

@[simp] theorem Bench.dwellDone_around : (b.dwellDone).around = b.around := by
  unfold Bench.dwellDone
  repeat' split
  all_goals simp

@[simp] theorem Bench.leakWaitTimeout_around : (b.leakWaitTimeout).around = b.around := by
  unfold Bench.leakWaitTimeout
  repeat' split
  all_goals simp

@[simp] theorem Bench.runaway_around : (b.runaway).around = b.around := by
  unfold Bench.runaway
  simp

@[simp] theorem Bench.stopComplete_around : (b.stopComplete).around = b.around := by
  unfold Bench.stopComplete
  repeat' split
  all_goals simp

@[simp] theorem Bench.stopTimeout_around : (b.stopTimeout).around = b.around := by
  unfold Bench.stopTimeout
  repeat' split
  all_goals simp

@[simp] theorem Bench.finishPoint_around : (b.finishPoint).around = b.around := by
  unfold Bench.finishPoint
  repeat' split
  all_goals simp

@[simp] theorem Bench.startWindow_around (x : SampleSet) (d : Int) : (b.startWindow x d).around = b.around := by
  unfold Bench.startWindow
  repeat' split
  all_goals simp

@[simp] theorem Bench.testStart_around (x : SampleSet) (d : Int) : (b.testStart x d).around = b.around := by
  unfold Bench.testStart
  repeat' split
  all_goals simp

@[simp] theorem Bench.handOver_around (w : WindowRecord) (p : ListenParams) (pt : Point) (v : Nat) : (b.handOver w p pt v).around = b.around := rfl

@[simp] theorem Bench.windowClose_around (x : SampleSet) (d : Int) : (b.windowClose x d).around = b.around := by
  unfold Bench.windowClose
  split
  · dsimp only
    split
    · split <;> simp
    · repeat' split
      all_goals simp
  · rfl

@[simp] theorem Bench.tellLeakDone_around : (b.tellLeakDone).around = b.around := by
  unfold Bench.tellLeakDone
  repeat' split
  all_goals simp

@[simp] theorem Bench.leakDone_around : (b.leakDone).around = b.around := by
  unfold Bench.leakDone
  repeat' split
  all_goals simp

@[simp] theorem Bench.ventDone_around : (b.ventDone).around = b.around := by
  unfold Bench.ventDone
  simp

@[simp] theorem Bench.ventTimeout_around : (b.ventTimeout).around = b.around := by
  unfold Bench.ventTimeout
  repeat' split
  all_goals simp

@[simp] theorem Bench.slow_around : (b.slow).around = b.around := by
  unfold Bench.slow
  simp

@[simp] theorem Bench.listenCutOff_around : (b.listenCutOff).around = b.around := by
  unfold Bench.listenCutOff
  simp

@[simp] theorem Bench.listenTimeLimit_around : (b.listenTimeLimit).around = b.around := by
  unfold Bench.listenTimeLimit
  simp

@[simp] theorem Bench.fill_around : (b.fill).around = b.around := by
  unfold Bench.fill
  repeat' split
  all_goals simp

@[simp] theorem Bench.supplyWaitLimit_around : (b.supplyWaitLimit).around = b.around := by
  unfold Bench.supplyWaitLimit
  simp

@[simp] theorem Bench.settlePhase_around : (b.settlePhase).around = b.around := by
  unfold Bench.settlePhase
  repeat' split
  all_goals simp

@[simp] theorem Bench.grossLeak_around : (b.grossLeak).around = b.around := by
  unfold Bench.grossLeak
  repeat' split
  all_goals simp

@[simp] theorem Bench.measure_around : (b.measure).around = b.around := by
  unfold Bench.measure
  repeat' split
  all_goals simp

@[simp] theorem Bench.startBlock_around : (b.startBlock).around = b.around := by
  unfold Bench.startBlock
  repeat' split
  all_goals simp

@[simp] theorem Bench.disturbed_around : (b.disturbed).around = b.around := by
  unfold Bench.disturbed
  simp

@[simp] theorem Bench.pulseEnd_around : (b.pulseEnd).around = b.around := by
  unfold Bench.pulseEnd
  simp

@[simp] theorem Bench.recoveryEnd_around : (b.recoveryEnd).around = b.around := by
  unfold Bench.recoveryEnd
  simp

@[simp] theorem Bench.endBlock_around : (b.endBlock).around = b.around := by
  unfold Bench.endBlock
  split
  · split
    · dsimp only
      split <;> simp
    · rfl
  · rfl

@[simp] theorem Bench.perform_around (e : StEvent) : (b.perform e).around = b.around := by
  cases e <;> simp [Bench.perform]

@[simp] theorem Bench.outputWork_around : (b.outputWork).around = b.around := by
  unfold Bench.outputWork
  split
  · rfl
  · dsimp only
    split <;> simp [apply_ite Bench.around]

@[simp] theorem Bench.timers_around : (b.timers).around = b.around := rfl

@[simp] theorem Bench.collect_around (x : SampleSet) (d : Int) : (b.collect x d).around = b.around := by
  unfold Bench.collect
  split <;> simp [apply_ite Bench.around]

@[simp] theorem Bench.sampleSet_around (x : SampleSet) : (b.sampleSet x).around = b.around := by
  unfold Bench.sampleSet
  dsimp only
  repeat' split
  all_goals simp

@[simp] theorem Bench.gapSignal_around : (b.gapSignal).around = b.around := by
  unfold Bench.gapSignal
  simp

@[simp] theorem Bench.absentSignal_around : (b.absentSignal).around = b.around := by
  unfold Bench.absentSignal
  simp

@[simp] theorem Bench.steadyTest_around : (b.steadyTest).around = b.around := by
  unfold Bench.steadyTest
  repeat' split
  all_goals simp

@[simp] theorem Bench.listenLimit_around : (b.listenLimit).around = b.around := by
  unfold Bench.listenLimit
  repeat' split
  all_goals simp

@[simp] theorem Bench.form_around : (b.form).around = b.around := by
  unfold Bench.form
  repeat' split
  all_goals simp

@[simp] theorem Bench.superviseRuns_around : (b.superviseRuns).around = b.around := by
  unfold Bench.superviseRuns
  dsimp only
  repeat' split
  all_goals simp

@[simp] theorem Bench.supervise_around : (b.supervise).around = b.around := by
  unfold Bench.supervise
  split
  · dsimp only
    repeat' split
    all_goals simp
  · rfl

@[simp] theorem Bench.workFillWait_around (a : Activity) : (b.workFillWait a).around = b.around := by
  unfold Bench.workFillWait
  repeat' split
  all_goals simp

@[simp] theorem Bench.workFill_around (a : Activity) : (b.workFill a).around = b.around := by
  unfold Bench.workFill
  repeat' split
  all_goals simp

@[simp] theorem Bench.workSettle_around (a : Activity) : (b.workSettle a).around = b.around := by
  unfold Bench.workSettle
  repeat' split
  all_goals simp

@[simp] theorem Bench.workVent_around (a : Activity) : (b.workVent a).around = b.around := by
  unfold Bench.workVent
  repeat' split
  all_goals simp

@[simp] theorem Bench.workStart_around (a : Activity) : (b.workStart a).around = b.around := by
  unfold Bench.workStart
  dsimp only
  repeat' split
  all_goals simp

@[simp] theorem Bench.workEnd_around (k : Nat) (a : Activity) : (b.workEnd k a).around = b.around := by
  unfold Bench.workEnd
  dsimp only
  repeat' split
  all_goals simp

@[simp] theorem Bench.workPhase_around (a : Activity) : (b.workPhase a).around = b.around := by
  unfold Bench.workPhase
  repeat' split
  all_goals simp

@[simp] theorem Bench.leakWork_around : (b.leakWork).around = b.around := by
  unfold Bench.leakWork
  dsimp only
  repeat' split
  all_goals simp

@[simp] theorem Bench.work_around (t : Todo) : (b.work t).around = b.around := by
  cases t <;> simp [Bench.work]
  rfl

@[simp] theorem runWork_around (ts : List Todo) : (runWork ts b).around = b.around := by
  induction ts generalizing b with
  | nil => rfl
  | cons t ts ih =>
    cases t <;> simp only [runWork]
    case due => simp
    all_goals
      split
      · rw [ih]
        simp
      · simp

@[simp] theorem Bench.goOn_around (ts : List Todo) : (b.goOn ts).around = b.around := by
  unfold Bench.goOn
  split <;> simp

@[simp] theorem settleWork_around (n : Nat) : (settleWork n b).around = b.around := by
  induction n generalizing b with
  | zero => rfl
  | succ n ih =>
    unfold settleWork
    split
    · rfl
    · rw [ih]
      simp [Bench.fire]
    · rw [ih]
      simp

@[simp] theorem Bench.settle_around : b.settle.around = b.around := by
  simp [Bench.settle]

end Sys2Proof.Machine
end

