-- ==== Sys2Proof/Laws/Ops.lean ====
section
/-! SUPPORT. What each shared operation can do, said once: counts, slots of the report store, the ring port's
choice, the request queue, and the work of a station. -/

namespace Sys2Proof.Machine

/-! ### Counts -/

theorem satAdd_le (top n d : Nat) : satAdd top n d ≤ top := Nat.min_le_left _ _

theorem satAdd_of_le {top n d : Nat} (h : n + d ≤ top) : satAdd top n d = n + d := Nat.min_eq_right h

theorem le_satAdd {top n d : Nat} (h : n ≤ top) : n ≤ satAdd top n d :=
  Nat.le_min.mpr ⟨h, Nat.le_add_right _ _⟩

theorem countUp_le (n : Nat) : countUp n ≤ Config.counterTop := satAdd_le _ _ _

theorem clampTo_natAbs_le (v : Nat) (x : Int) : (clampTo v x).natAbs ≤ v := by
  unfold clampTo
  omega

/-- A step toward the target moves by at most `q` and never beyond it. -/
theorem stepToward_spec (s t : Int) (q : Nat) :
    (stepToward s t q - s).natAbs ≤ q ∧ (stepToward s t q - t).natAbs ≤ (s - t).natAbs := by
  unfold stepToward
  split
  · omega
  · split <;> omega

/-- Rounding half up: the quotient is the nearest, ties upward. -/
theorem roundDiv_spec (a b : Nat) (h : 0 < b) :
    b * roundDiv a b ≤ a + b / 2 ∧ a + b / 2 < b * (roundDiv a b + 1) := by
  unfold roundDiv
  exact ⟨Nat.mul_div_le _ _, Nat.lt_mul_div_succ _ h⟩

/-! ### Records -/

/-- What an entry aimed at a record's id leaves in a slot. -/
def openSlot (id : Nat) (f : Record → Record) : Option Record → Option Record
  | some r => if r.id = id ∧ r.closed = false then some (f r) else some r
  | none => none

theorem mapOpen_eq (slots : List (Option Record)) (id : Nat) (f : Record → Record) :
    mapOpen slots id f = slots.map (openSlot id f) := rfl

@[simp] theorem mapOpen_length (slots : List (Option Record)) (id : Nat) (f : Record → Record) :
    (mapOpen slots id f).length = slots.length := by
  simp [mapOpen]

/-- A slot that holds no OPEN record of the id stays as it is. -/
theorem mapOpen_getElem_of_ne {slots : List (Option Record)} {id : Nat} {f : Record → Record} {k : Nat}
    {r : Record} (h : slots[k]? = some (some r)) (hne : r.id ≠ id ∨ r.closed = true) :
    (mapOpen slots id f)[k]? = some (some r) := by
  rw [mapOpen_eq, List.getElem?_map, h]
  rcases hne with hne | hc
  · simp [openSlot, hne]
  · simp [openSlot, hc]

@[simp] theorem Store.onOpen_idCounter (t : Store) (id : Nat) (f : Record → Record) :
    (t.onOpen id f).idCounter = t.idCounter := rfl

@[simp] theorem Store.onOpen_closeQueue (t : Store) (id : Nat) (f : Record → Record) :
    (t.onOpen id f).closeQueue = t.closeQueue := rfl

@[simp] theorem Store.onOpen_slots (t : Store) (id : Nat) (f : Record → Record) :
    (t.onOpen id f).slots = mapOpen t.slots id f := rfl

/-- A close changes only the OPEN record of the id, and queues that id. -/
theorem Store.closeRecord_spec (t : Store) (id : Nat) (now : Word) (reason : Option StopReason) :
    t.closeRecord id now reason = t ∨
      (t.closeRecord id now reason).slots = mapOpen t.slots id (Record.close now reason) ∧
      (t.closeRecord id now reason).closeQueue = t.closeQueue ++ [id] ∧
      (t.closeRecord id now reason).idCounter = t.idCounter := by
  unfold Store.closeRecord
  split
  · exact .inr ⟨rfl, rfl, rfl⟩
  · exact .inl rfl

/-! ### The ring port -/

theorem State.pump_busy {s : State} {t : Transmission} (h : s.rp.tx = some t) : s.pump = s := by
  simp [State.pump, h]

theorem State.pump_own {s : State} (h : s.rp.tx = none) (ho : s.ownReady = true) :
    s.pump = s.sendOwn := by
  simp [State.pump, h, ho]

theorem State.pump_buffer {s : State} {f : Frame} {rest : List Frame} (h : s.rp.tx = none)
    (ho : s.ownReady = false) (hb : s.rp.buffer = f :: rest) :
    s.pump = { s with rp := { s.rp with tx := some ⟨.forwarded, f⟩, buffer := rest } } := by
  simp [State.pump, h, ho, hb]

theorem State.pump_idle {s : State} (h : s.rp.tx = none) (ho : s.ownReady = false)
    (hb : s.rp.buffer = []) : s.pump = s := by
  simp [State.pump, h, ho, hb]

/-- The choice of the next frame touches the ring port and the request queue alone. -/
theorem State.pump_frame (s : State) : ∃ rp queue, s.pump = { s with rp := rp, queue := queue } := by
  unfold State.pump
  split
  · exact ⟨_, _, rfl⟩
  · split
    · unfold State.sendOwn
      split
      · split
        · exact ⟨_, _, rfl⟩
        · split
          · split
            · exact ⟨_, _, rfl⟩
            · exact ⟨_, _, rfl⟩
          · exact ⟨_, _, rfl⟩
        · exact ⟨_, _, rfl⟩
      · exact ⟨_, _, rfl⟩
    · split
      · exact ⟨_, _, rfl⟩
      · exact ⟨_, _, rfl⟩

/-! ### The request queue -/

@[simp] theorem answerOldest_length (rep : Reply) (q : List Request) :
    (answerOldest rep q).length = q.length := by
  induction q with
  | nil => rfl
  | cons r rs ih =>
    unfold answerOldest
    split <;> simp [ih]

@[simp] theorem markSending_length (q : List Request) : (markSending q).length = q.length := by
  induction q with
  | nil => rfl
  | cons r rs ih =>
    unfold markSending
    split <;> simp [ih]

theorem dropSending_length_le (q : List Request) : (dropSending q).length ≤ q.length := by
  induction q with
  | nil => simp [dropSending]
  | cons r rs ih =>
    unfold dropSending
    split
    · simp
    · simpa using ih

/-- A refusal leaves the state and answers with no payload but the count 0. -/
theorem refuse_spec (c : ReplyCode) (s : State) :
    (refuse c s).state = s ∧ (refuse c s).code = c ∧ (refuse c s).tag = .none ∧
      (refuse c s).payload = [0] := ⟨rfl, rfl, rfl, rfl⟩

/-- A request command either executes the oldest WAITING entry, of its kind, or does nothing. -/
theorem State.request_cases (kind : Nat → Bool) (op : Request → State → Answer) (s : State) :
    (∃ r, s.queue.find? Request.waiting = some r ∧ kind r.kind.toNat = true ∧
      s.request kind op = State.reply r (checked op r s.settle)) ∨ s.request kind op = s := by
  unfold State.request
  split
  · rename_i r hr
    split
    · exact .inl ⟨r, hr, ‹_›, rfl⟩
    · exact .inr rfl
  · exact .inr rfl

/-! ### The check (R1) -/

/-- One bit of the check register, an input `x` mixed in: the next register of `r` by the top bit of `x`, with
the rest of `x` moved up. -/
theorem crcBit_xor (r x : Half) :
    crcBit (r ^^^ x) = (if r.msb = x.msb then r <<< 1 else (r <<< 1) ^^^ 0x1021#16) ^^^ (x <<< 1) := by
  unfold crcBit
  rw [BitVec.msb_xor, BitVec.shiftLeft_xor_distrib]
  cases r.msb <;> cases x.msb <;> simp <;> ac_rfl

/-! ### Stations -/

/-- A station that is IDLE or STOPPING does not enter STOPPING again. -/
theorem Bench.enterStopping_of_not_driving {b : Bench} (k : StopKind) (r : StopReason)
    (h : b.st.sc.state.driving = false) : b.enterStopping k r = b := by
  simp [Bench.enterStopping, h]

/-- An activity in VENT or DONE keeps its result. -/
theorem Bench.fixLeak_of_fixed {b : Bench} {a : Activity} (o : LeakOutcome) (r : Option LeakReason)
    (c : Option DefectCode) (h : b.st.lu = some a) (hp : a.phase.beforeVent = false) :
    b.fixLeak o r c = b := by
  simp [Bench.fixLeak, h, hp]

/-- A station command performs the step due at its station, or does nothing. -/
theorem State.fireDue_cases (s : State) (i : StNo) (kind : StEvent → Bool) :
    (∃ e rest, (s.stations.get i).todo = .due e :: rest ∧ kind e = true ∧
      s.fireDue i kind = s.fireAt i e rest) ∨ s.fireDue i kind = s := by
  unfold State.fireDue Station.dueStep
  split
  · rename_i e rest h
    split at h
    · rename_i e' rest' ht
      cases h
      split
      · exact .inl ⟨_, _, ht, ‹_›, rfl⟩
      · exact .inr rfl
    · cases h
  · exact .inr rfl

/-- A command of a station's step when that step is due. -/
theorem State.fireDue_of_due {s : State} {i : StNo} {kind : StEvent → Bool} {e : StEvent}
    {rest : List Todo} (h : (s.stations.get i).todo = .due e :: rest) (hk : kind e = true) :
    s.fireDue i kind = s.resumeWith i rest ((s.desk i).perform e) := by
  simp [State.fireDue, Station.dueStep, h, hk, State.fireAt]

/-- The choice of the next frame leaves every station's bench. -/
@[simp] theorem State.pump_bench (s : State) (i : StNo) : s.pump.bench i = s.bench i := by
  obtain ⟨rp, queue, h⟩ := s.pump_frame
  rw [h]
  rfl

/-- What a station's work and every due step of it keep, each followed by the side's choice, the doing of all
its work keeps. -/
theorem State.settleAt_keeps {P : State → Prop} {i : StNo}
    (work : ∀ s, P s → P (s.resumeWith i (s.stations.get i).todo (s.desk i)))
    (fire : ∀ s e rest, (s.stations.get i).todo = .due e :: rest → P s → P (s.fireAt i e rest))
    (n : Nat) (s : State) (h : P s) : P (s.settleAt i n) := by
  induction n generalizing s with
  | zero => exact h
  | succ n ih =>
    unfold State.settleAt
    split
    · exact h
    · exact ih _ (fire _ _ _ ‹_› h)
    · exact ih _ (work _ h)

/-- A LOSS_OF_SYNC that is due is done, one that is not leaves the state. -/
theorem State.settleHead_cases (s : State) (node : Nat) :
    (∃ h, headOf s.heads node = some h ∧ 3 ≤ h.run ∧ s.settleHead node = s.loseHead node) ∨
      ((∀ h, headOf s.heads node = some h → h.run < 3) ∧ s.settleHead node = s) := by
  unfold State.settleHead
  cases hn : headOf s.heads node with
  | none => simp
  | some h =>
    by_cases hr : 3 ≤ h.run
    · simp [HeadEntry.lost, hr]
    · simp [HeadEntry.lost, hr]
      omega

/-- Doing the work of a station that has none changes nothing. -/
theorem State.settleStation_of_nil {s : State} {i : StNo} (h : (s.stations.get i).todo = []) :
    s.settleStation i = s := by
  simp [State.settleStation, workBound, State.settleAt, h]

@[simp] theorem State.desk_around (s : State) (i : StNo) : (s.desk i).around = (s.bench i).around := rfl

end Sys2Proof.Machine
end

