-- ==== Sys2Proof/Tests/Slice0.lean ====
section
/-! SUPPORT. The model's own tests: the well-formedness smoke test, worked cases of spec/ with the
numbers printed there, and for each statement with hypotheses a witness that something meets them. -/

namespace Sys2Proof.Tests

open Sys2Proof Sys2Proof.Machine

-- One kernel evaluation at a time: each of them in a thread of its own takes more memory than the check allows.
set_option Elab.async false

/-! ### Builders -/

/-- The state a command answers. -/
def nextOf : Host.Outcome State Fault Refusal → Option State
  | .next s => some s
  | _ => none

/-- A WAITING request from node 1 with tag 9, without force. -/
def req (kind : Nat) (body : List Byte) : Request :=
  { source := 1, kind := BitVec.ofNat 8 kind, tag := 9, force := false, body := body, arrival := .ok,
    state := .waiting }

/-- The state with one request in the queue. -/
def ask (kind : Nat) (body : List Byte) (s : State) : State := { s with queue := [req kind body] }

/-- The state with station `i` replaced. -/
def seat (i : StNo) (t : Station) (s : State) : State := { s with stations := s.stations.set i t }

/-- The state in which a step is due at station `i`, a station that is otherwise `t`. -/
def dueAt (i : StNo) (e : StEvent) (t : Station) : State :=
  seat i { t with todo := [.due e] } State.reset

/-- A station in a state of SC. -/
def inState (x : StState) : Station :=
  { Station.initial with sc := { Context.idle with state := x, recordId := 1 } }

/-- A station RUNNING a segment. -/
def runs (g : SegBody) : Station :=
  { Station.initial with
    sc := { Context.idle with state := .running, recordId := 1, chain := [⟨0, none⟩], executed := 1
                              segment := some ⟨false, g⟩ } }

def motion : Motion := { target := 3000, rate := 500, band := 50, persist := 3 }
def leakParams : LeakParams :=
  { fillTarget := 20000, fillTimeout := 100, settle := 10, measure := 10000, averaging := 16,
    holdLimit := 0, ventThreshold := 500, ventTimeout := 100 }

/-- The segment RAMP of 5.8.1, and a LISTEN, a DWELL and a LEAK_WAIT. -/
def ramp : SegBody := .ramp motion 4000 20
def dwell : SegBody := .dwell motion 4000 0
def listen : SegBody := .listen motion 100 0 1 3
def leakWait : SegBody := .leakWait 100

/-- A leak activity of record 1 in a phase. -/
def activity (p : LeakPhase) : Activity :=
  { newActivity 1 leakParams 20000 1500 with phase := p, mark := .old, ambient := some 101325 }

/-- One undecided line with a clear count, in a point of record 1. -/
def line : PointLine :=
  { order := 1, limits := ⟨9, 9, 9, 9⟩, computed := true, exceed := 0, clear := 0, verdict := .undecided
    levels := [], lastBand := none }
def point : Point :=
  { limitSet := 0, edge1 := 1, edge2 := 2, edge3 := 3, maxAttempts := 3, timeLimit := 100, ordinal := 1
    lines := [line] }
def listenParams : ListenParams := { e := 16, n := 1, channel := .a, table := List.replicate 16 0 }
def window : WindowRecord :=
  { startAngle := 0, direction := .up, k := 16, ts := 6400, speed := none, state := .collecting
    reason := none, accums := [⟨0, 0⟩] }

/-- A station RUNNING a LISTEN with a collecting window. -/
def listens : Station :=
  { runs listen with
    point := some point
    aw := { AngleUnit.initial with
      state := .collecting, params := some listenParams, window := some window } }

/-- Record 1, OPEN, of station 0, in slot 0. -/
def record : Record := newRecord 1 0 7 0 [65] 100
def storeOf (r : Record) : Store :=
  { slots := some r :: List.replicate 15 none, idCounter := r.id
    closeQueue := if r.closed then [r.id] else [] }
def closedRecord : Record := record.close 200 none

/-- The cell with a variant, a recipe, a limit set and an angle table, and heads 1 to 3 SYNCED and named
by station 0. -/
def cell : State :=
  { State.reset with
    heads := List.replicate 30 { HeadEntry.initial with state := .synced }
    cell := { CellSettings.initial with absMaxSpeed := 30000 }
    setups := Quad.all
      { Setup.initial with driveHead := 1, processHead := 2, vibrationHead := 3, maxSpeed := 25000 }
    lib :=
      { variants := some ⟨7, 0, 20000, 1500, 0⟩ :: List.replicate 63 none
        recipes := some ⟨false, [⟨false, ramp⟩, ⟨false, .finish⟩], 0⟩ :: List.replicate 47 none
        limits := some ⟨1, 2, 3, [⟨1, ⟨9, 9, 9, 9⟩⟩], 0⟩ :: List.replicate 31 none
        angles := [some ⟨.loading, 16, [1, 2], 0⟩, none, none, none] } }

/-- An ADMIT of variant 7 to station 0 in run mode RUN with serial A. -/
def admitBody : List Byte := [0, 2, 0, 7, 1, 65]

/-! ### Well-formedness and decoding -/

theorem test_ill_formed_node_0 : Instr.wf (.lossOfSync 0) = false := by decide
theorem test_ill_formed_node_31 : Instr.wf (.lossOfSync 31) = false := by decide
theorem test_well_formed_nodes : Instr.wf (.lossOfSync 1) = true ∧ Instr.wf (.lossOfSync 30) = true := by
  decide
theorem test_no_row_has_bits : decodeTableWord 8 255 = none := rfl

/-! ### Worked cases of spec/ -/

/-- R1: the check over the characters 1 to 9. -/
theorem test_check_of_123456789 :
    crc [0x31, 0x32, 0x33, 0x34, 0x35, 0x36, 0x37, 0x38, 0x39] = 0x29B1#16 := by decide +kernel

/-- R177: a frame with an empty payload is 8 bytes, its check high byte first, and is read back. -/
theorem test_empty_frame_is_eight_bytes :
    (frameBytes (buildFrame 1 30 5 7 [])).length = 8 ∧
    (frameBytes (buildFrame 1 30 5 7 [])).take 6 = [1, 30, 5, 7, 0, 0] ∧
    frameBytes { buildFrame 1 30 5 7 [9] with check := 0x1234#16 } =
      [1, 30, 5, 7, 0, 1, 9, 0x12, 0x34] ∧
    frameOfBytes [1, 30, 5, 7, 0, 1, 9, 0x12, 0x34] =
      some ⟨1, 30, 5, 7, 1, [9], 0x1234#16⟩ ∧
    frameOfBytes [1, 30, 5, 7, 0, 1, 9] = none := by decide +kernel

/-- 1.8.1: the ahead values. -/
theorem test_ahead_wraps :
    ({ HeadEntry.initial with expected := 253 } : HeadEntry).ahead 240 = 243 ∧
    ({ HeadEntry.initial with expected := 254 } : HeadEntry).ahead 12 = 14 := by decide

/-- 1.8.1: the frame of sequence 252 at expected 251 reveals a gap of 1. -/
theorem test_gap_of_one :
    headOf (State.track (buildFrame 1 7 2 252 [0, 0, 3, 235, 0])
      { HeadEntry.initial with state := .synced, expected := 251 } State.reset).heads 7 =
    some { HeadEntry.initial with
      state := .synced, expected := 253, gap := 1, used := 1, lastStamp := 1003, signalled := true } := by
  decide +kernel

/-- 6.8: W2's speed. -/
theorem test_window_speed : windowSpeed 2 3208 = 11970 := by decide

/-- 7.7: order 1 of the worked case, stages 1 to 4. -/
def cosines : ListenParams :=
  { e := 8, n := 2, channel := .a, table := [32767, 23170, 0, -23170, -32767, -23170, 0, 23170] }
def sines : List Int := [1000, 707, 0, -707, -1000, -707, 0, 707, 1000, 707, 0, -707, -1000, -707, 0, 707]

def sums (h : Nat) : Accum :=
  sines.zipIdx.foldl (fun (a : Accum) x => a.add cosines x.2 x.1 { line with order := h }) ⟨0, 0⟩

theorem test_order_level :
    sums 1 = ⟨262117520, 0⟩ ∧
    scale 262117520 = 7999 ∧ (⟨262117520, 0⟩ : Accum).magnitude = 7999 ∧
    levelOf 7999 16 = ⟨1000, false⟩ := by decide +kernel

/-- 7.7: order 2 shows nothing. -/
theorem test_order_level_two : sums 2 = ⟨0, 0⟩ := by decide +kernel

/-- 8.9: the normalised pressures and the leak rate. -/
theorem test_leak_rate :
    normalise 101325 20000 3000 = 117323 ∧ normalise 101325 19900 3050 = 117033 ∧
    leakRate 117323 117033 20000 10000 = ⟨34345, false, false⟩ := by decide

/-- 9.8: the id after 65535 skips 0 and the held id 1. -/
theorem test_id_wraps :
    Store.nextId { storeOf closedRecord with idCounter := 65535 } = 2 := by decide +kernel

/-- 9.10: the tags of the chunks. -/
theorem test_chunk_tags :
    chunkTag 1300 0 = .reportFirst ∧ chunkTag 1300 1 = .reportMiddle ∧ chunkTag 1300 2 = .reportLast ∧
    chunkTag 512 0 = .reportSingle ∧ chunkTag 513 1 = .reportLast := by decide

/-- 9.9: a ninth code is not stored and still sets its mark. -/
theorem test_ninth_defect :
    let r := [DefectCode.speedNotReached, .torqueLimit, .noiseOrder, .orderRange, .noiseNotJudged,
      .leakBusy, .speedDeviation, .leakNotJudged, .chainDepth].foldl (fun r c => r.addDefect c 1) record
    r.defects.length = 8 ∧ r.defectsTruncated = true ∧ r.basis.fault = true := by decide +kernel

/-- 11.5.1: the length of a record. -/
theorem test_record_length :
    ({ record with
        serial := List.replicate 12 65
        segs := List.replicate 5 ⟨0, 0, .ramp, .done, 0, 0, 0, false⟩
        orders := [⟨1, 1, none, .pass, [⟨0, false⟩, ⟨0, false⟩], 0⟩,
          ⟨1, 2, none, .pass, [⟨0, false⟩, ⟨0, false⟩, ⟨0, false⟩], 0⟩, ⟨1, 3, none, .pass, [], 0⟩]
        defects := List.replicate 2 ⟨.noiseOrder, 1, 1⟩
        leak := some ⟨.pass, none, some 1, some 1, some ⟨1, 1, ⟨1, false, false⟩⟩⟩ } : Record).bytes.length
      = 185 := by decide +kernel

/-- 10.3.1: T6 is lost, and the pulse of W = 6 ends in recovery with R = 3. -/
theorem test_sixth_trigger_is_lost :
    let su : Setup := { Setup.initial with width := 6, recovery := 3 }
    let o := (List.replicate 6 Verdict.fail).foldl (fun o v => Output.verdict su v o) Output.initial
    o.reject = .pulsing ∧ o.pending = 4 ∧ o.lost = 1 ∧
    (o.endPulse su).reject = .recovering ∧ ((o.endPulse su).endRecovery su).pending = 3 := by
  decide +kernel

/-- 5.8.1: the setpoint's first steps and the clamp to Vmax. -/
theorem test_ramp_steps :
    stepToward 0 3000 500 = 500 ∧ stepToward 2500 3000 500 = 3000 ∧ clampTo 25000 30000 = 25000 ∧
    clampTo 25000 (-30000) = -25000 := by decide

/-- 5.8.1: a RAMP's duration and figures reach its result when RAMP_DONE is done. -/
theorem test_ramp_done_is_recorded :
    ((nextOf (exec (.rampDone 0) { dueAt 0 .rampDone
        { runs ramp with
          sc := { (runs ramp).sc with segTimer := 7 }
          dc := { Drive.idle with maxError := 390, maxTorque := 4300 } } with
        store := storeOf record })).map fun s => s.store.slots.head?.join.map Record.segs)
      = some (some [⟨0, 0, .ramp, .done, 7, 390, 4300, false⟩]) := by decide +kernel

/-- 0.7 and R27: ADMIT answers DONE with the id 1, and the station is RUNNING in run mode RUN. -/
theorem test_admit :
    ((nextOf (exec .admitAxle (ask 13 admitBody cell))).map fun s =>
      ((s.stations.get 0).sc.state, (s.stations.get 0).mode, (s.stations.get 0).sc.recordId,
        s.queue.map Request.state |>.map fun q => match q with
          | .answered a _ => a.payload
          | .waiting => [])) = some (.running, .run, 1, [[0, 1]]) := by decide +kernel

/-! ### Witnesses: ring port, timebase, sample intake -/

theorem asks (k : Nat) (h : k < 256) (body : List Byte) (s : State) :
    (ask k body s).Asks k (req k body) :=
  ⟨rfl, by simp [req, Nat.mod_eq_of_lt h], rfl⟩

theorem test_witness_StepDoesTheFrontCommand : State.reset.pending = [] := rfl

theorem test_witness_AddressIsTheStraps :
    (∀ straps, Instr.flywheelExpiry ≠ .powerOnReset straps) ∧
    exec .flywheelExpiry State.reset = .next State.reset := ⟨fun _ h => (nomatch h), rfl⟩

theorem test_witness_RemovedFramesAreCounted :
    (frameGood { buildFrame 30 5 4 0 [1] with check := 0 } = false) ∧
    (frameGood (buildFrame 30 5 5 0 []) = true ∧ (buildFrame 30 5 5 0 []).kind ≠ 4) ∧
    (frameGood (buildFrame 1 30 3 0 []) = true ∧ (buildFrame 1 30 3 0 []).dest ≠ State.reset.rp.addr ∧
      (buildFrame 1 30 3 0 []).src = State.reset.rp.addr) := by decide +kernel

theorem test_witness_RequestIsTakenOrLost :
    (frameGood (buildFrame 30 1 4 0 [1, 9, 0]) = true ∧
      (buildFrame 30 1 4 0 [1, 9, 0]).dest = State.reset.rp.addr) ∧
    ({ State.reset with queue := List.replicate 3 (req 1 []) } : State).queue.length < 4 ∧
    4 ≤ ({ State.reset with queue := List.replicate 4 (req 1 []) } : State).queue.length := by
  decide +kernel

/-- A frame for another node. -/
def passing : Frame := buildFrame 1 2 5 0 []

/-- The ring port with `n` frames waiting behind one in transmission. -/
def busy (n : Nat) : State :=
  { State.reset with
    rp := { State.reset.rp with tx := some ⟨.forwarded, passing⟩, buffer := List.replicate n passing } }

/-- R1: a good frame, one of 1025 payload bytes, and one with fewer than its length field says. -/
theorem test_witness_RemovedFramesAreCounted_good :
    frameGood (buildFrame 1 2 5 0 [7]) = true ∧
    frameGood (buildFrame 1 2 5 0 (List.replicate 1025 0)) = false ∧
    frameGood { passing with length := 1 } = false := by decide +kernel

/-- R22, 11.3: lengths at and beside those of the catalogue. -/
theorem test_witness_RequestIsTakenOrLost_arrival :
    (byteAt [1, 9, 0] 0 = 1 ∧ byteAt [21, 9, 0] 0 = 21 ∧ byteAt [] 0 = 0 ∧ byteAt [22] 0 = 22) ∧
    (arrivalOf [1, 9, 0] = .ok ∧ arrivalOf [1, 9] = .length ∧ arrivalOf [21, 9, 0, 1] = .length) ∧
    (arrivalOf [13, 9, 0, 0, 2, 0, 7, 1, 65] = .ok ∧ arrivalOf [13, 9, 0, 0, 2, 0, 7, 2, 65] = .length) ∧
    (arrivalOf ([3, 9, 0, 0, 0, 1] ++ List.replicate 30 0) = .ok ∧
      arrivalOf [3, 9, 0, 0, 0] = .length) ∧
    arrivalOf [] = .ok ∧ arrivalOf [22] = .ok := by decide +kernel

theorem test_witness_ForwardedFrame :
    (passing.dest ≠ State.reset.rp.addr ∧ passing.src ≠ State.reset.rp.addr ∧ passing.kind ≠ 1 ∧
      passing.kind ≠ 2) ∧
    (State.reset.rp.tx = none ∧ State.reset.rp.buffer = [] ∧ State.reset.ownReady = false) ∧
    ((busy 3).rp.tx ≠ none ∧ (busy 3).rp.buffer.length < 4) ∧ 4 ≤ (busy 4).rp.buffer.length := by
  decide +kernel

theorem test_witness_CycleFrameSetsTheCycle :
    (frameGood (buildFrame 0 1 1 0 [0, 0, 0, 9]) = true ∧ (buildFrame 0 1 1 0 [0, 0, 0, 9]).length = 4) ∧
    (frameGood (buildFrame 0 1 1 0 [0, 0, 0]) = true ∧ (buildFrame 0 1 1 0 [0, 0, 0]).length ≠ 4) ∧
    (buildFrame 0 1 1 0 []).dest ≠ State.reset.rp.addr ∧
    (buildFrame 0 1 1 0 []).src ≠ State.reset.rp.addr := by decide +kernel

theorem test_witness_FlywheelMakesACycle :
    ({ State.reset with tb := ⟨5, true, 0, 0⟩ } : State).tb.running = true ∧
    State.reset.tb.running = false := ⟨rfl, rfl⟩

/-- Every head in a state, with its expected sequence and run. -/
def headsAt (x : HeadState) (e : Byte) (n : Nat) : State :=
  { State.reset with
    heads := List.replicate 30 { HeadEntry.initial with state := x, expected := e, run := n } }

/-- A SAMPLE frame of node 7, sequence 252, with no blocks. -/
def sample : Frame := buildFrame 0 7 2 252 [0, 0, 3, 235, 0]

theorem test_witness_SampleFrameIsTracked :
    (frameGood sample = true ∧ sample.dest ≠ State.reset.rp.addr ∧ sample.src ≠ State.reset.rp.addr ∧
      sample.kind = 2 ∧ sampleWellFormed sample.payload = true) ∧
    ((headOf ((headsAt .unsynced 0 0).forward sample).settle.heads 7).map HeadEntry.state = some .unsynced ∧
      (headOf ((headsAt .synced 252 0).forward sample).settle.heads 7).map (fun h => h.ahead 252) = some 0 ∧
      (headOf ((headsAt .synced 244 0).forward sample).settle.heads 7).map (fun h => h.ahead 252) = some 8 ∧
      (headOf ((headsAt .synced 243 0).forward sample).settle.heads 7).map (fun h => h.ahead 252) = some 9) ∧
    (frameGood (buildFrame 0 31 2 0 []) = true ∧
      headOf (State.reset.forward (buildFrame 0 31 2 0 [])).settle.heads 31 = none) ∧
    (frameGood (buildFrame 0 7 2 0 [0, 0, 0, 0]) = true ∧ sampleWellFormed [0, 0, 0, 0] = false) := by
  decide +kernel

/-- A SAMPLE frame with a slow block that marks speed and supply. -/
def slowSample : Frame :=
  buildFrame 0 7 2 252 ([0, 0, 3, 235, 2, 0x21] ++ putS32 (-5) ++ List.replicate 16 0 ++ putS32 600000)

theorem test_witness_SampleFrameIsTracked_slow :
    (frameGood slowSample = true ∧ sampleWellFormed slowSample.payload = true ∧
      (headOf (State.reset.forward slowSample).settle.heads 7).map HeadEntry.state = some .unsynced ∧
      (State.reset.setups.get 0).vibrationHead ≠ slowSample.src.toNat) ∧
    ((nextOf (exec (.frameReceived slowSample) State.reset)).bind fun s => headOf s.heads 7).map
      (fun h => (h.values, h.fresh)) =
    some (⟨some (-5), none, none, none, none, some 600000⟩, ⟨true, false, false, false, false, true⟩) ∧
    (HeadEntry.closeCycle { HeadEntry.initial with
      values := ⟨some 1, some 2, none, none, none, none⟩
      fresh := ⟨true, false, false, false, false, false⟩, state := .synced }).closed =
      ⟨⟨.fresh 1, .held 2, .noValue, .noValue, .noValue, .noValue⟩, true, false⟩ := by decide +kernel

/-- A SAMPLE frame of node 3 with a fast block whose last angle is 9, and one without blocks. -/
def fastSample (seq : Byte) : Frame :=
  buildFrame 0 3 2 seq ([0, 0, 3, 235, 1] ++ List.replicate 186 0 ++ [0, 1, 0, 2, 0, 9])

/-- A frame of the part's own making with a payload of at most 1024 bytes is good. -/
theorem buildFrame_good (d x k n : Byte) (p : List Byte) (h : p.length ≤ 1024) :
    frameGood (buildFrame d x k n p) = true := by
  simp only [frameGood, buildFrame, frameChecked, frameHeader, Config.maxPayload, BitVec.toNat_ofNat,
    Nat.mod_eq_of_lt (show p.length < 2 ^ 16 by omega), h, decide_true, Bool.and_self]

/-- Station 0 names node 3 as its vibration head. -/
theorem test_witness_SampleFrameIsTracked_handed :
    frameGood (fastSample 0) = true ∧ sampleWellFormed (fastSample 0).payload = true ∧
    (byteAt (fastSample 0).payload 4).testBit 0 = true ∧ (cell.setups.get 0).vibrationHead = 3 :=
  ⟨buildFrame_good _ _ _ _ _ (by decide +kernel), by decide +kernel⟩

/-- The last angle that station 0, whose last angle was 5, holds after node 3's frame was used. -/
def angleAfter (payload : List Byte) (seq : Byte) : Option Half :=
  let old := seat 0 { Station.initial with aw := { AngleUnit.initial with lastAngle := some 5 } } cell
  ((State.track ⟨0, 3, 2, seq, 0, payload, 0⟩ { HeadEntry.initial with state := .synced } old).stations.get
    0).aw.lastAngle

/-- R13, R178: the lengths of the four content marks, bits 2 to 7 not read; a payload too short for marks; and
the largest good frame. -/
theorem test_witness_SampleFrameIsTracked_formed :
    (let p (marks : Byte) (n : Nat) : List Byte := [0, 0, 0, 0, marks] ++ List.replicate n 0
     [p 0 0, p 2 25, p 1 192, p 3 217, p 0xFC 0].all sampleWellFormed = true ∧
     [p 0 1, p 2 24, p 1 25, p 3 192, [0, 0, 0, 0]].any sampleWellFormed = false) ∧
    frameGood (buildFrame 1 2 5 0 (List.replicate 1024 0)) = true :=
  ⟨by decide +kernel, buildFrame_good _ _ _ _ _ (Nat.le_of_eq List.length_replicate)⟩

/-- R17: the sets of an expected frame reach the station, also after a revealed gap; a frame without sets is a
gap; an unused frame hands on nothing. -/
theorem test_sets_are_handed :
    angleAfter (fastSample 0).payload 0 = some 9 ∧ angleAfter (fastSample 8).payload 8 = some 9 ∧
    angleAfter [0, 0, 3, 235, 0] 0 = none ∧ angleAfter (fastSample 9).payload 9 = some 5 := by
  decide +kernel

/-- R15, R17: the third unused frame in a row reaches the station that names node 3 as a gap. -/
theorem test_witness_LossOfSyncUnsyncs_handed :
    let old := seat 0 { Station.initial with aw := { AngleUnit.initial with lastAngle := some 5 } }
      { cell with heads := putHead cell.heads 3 { HeadEntry.initial with state := .synced, run := 3 } }
    (old.setups.get 0).vibrationHead = 3 ∧ (headOf old.heads 3).map HeadEntry.run = some 3 ∧
    (nextOf (exec (.lossOfSync 3) old)).map (fun t => (t.stations.get 0).aw.lastAngle) = some none := by
  decide +kernel

theorem test_witness_LossOfSyncUnsyncs :
    ((headOf (headsAt .synced 5 3).heads 1).map HeadEntry.run = some 3 ∧
      (headOf (headsAt .synced 5 3).heads 30).map HeadEntry.run = some 3) ∧
    (headOf (headsAt .synced 5 2).heads 30).map HeadEntry.run = some 2 ∧
    exec (.lossOfSync 31) State.reset = .fault (.noSuchHead 31) := by
  refine ⟨by decide +kernel, by decide +kernel, rfl⟩

/-- A reply as formed for a request. -/
def reply : Reply := formReply (req 1 []) (done State.reset)

/-- The reset state with a frame of a kind in transmission, a window, and a row of requests. -/
def sendingBy (x : SentKind) (w : Option Window) (q : List Request) : State :=
  { State.reset with
    rp := { State.reset.rp with tx := some ⟨x, passing⟩, window := w }
    queue := q }

/-- A request answered, its reply in transmission or not. -/
def answered (sent : Bool) : Request := { req 1 [] with state := .answered reply sent }

theorem test_witness_TransmissionEndFreesTheSide :
    (∃ older younger, (sendingBy .reply (some ⟨[], some 0⟩) [req 1 [], answered true, req 2 []]).queue =
        older ++ answered true :: younger ∧
      ∀ q ∈ older, ∀ b, q.state ≠ .answered b true) ∧
    ((answered true).state = .answered reply true ∧
      (⟨[], some 0⟩ : Window).setpoints = [] ∧ (⟨[], some 1⟩ : Window).replies ≠ some 0) ∧
    ((sendingBy .setpoint (some ⟨[], none⟩) []).rp.tx = some ⟨.setpoint, passing⟩ ∧
      (sendingBy .setpoint (some ⟨[], none⟩) [answered false]).queue.countP Request.unsent = 1 ∧
      ((⟨[(0, 1)], none⟩ : Window).setpoints ≠ [] ∨ (⟨[(0, 1)], none⟩ : Window).replies ≠ none)) ∧
    (busy 1).rp.tx = some ⟨.forwarded, passing⟩ ∧ State.reset.rp.tx = none := by
  refine ⟨⟨[req 1 []], [req 2 []], rfl, ?_⟩, ⟨rfl, rfl, by decide⟩, ⟨rfl, by decide, .inl (by decide)⟩,
    rfl, rfl⟩
  intro q hq b hb
  rw [List.mem_singleton.1 hq] at hb
  cases hb

/-- R6, R8: the reply sent leaves the queue, and its window closes after the last one; the last SETPOINT frame
takes the reply part, and a reply follows it at once. -/
theorem test_transmission_ends :
    ((nextOf (exec .transmissionEnd
        (sendingBy .reply (some ⟨[], some 0⟩) [req 1 [], answered true, req 2 []]))).map fun s =>
      (s.queue, s.rp.window, s.rp.tx)) = some ([req 1 [], req 2 []], none, none) ∧
    ((nextOf (exec .transmissionEnd
        (sendingBy .setpoint (some ⟨[], none⟩) [answered false, answered false, answered false]))).map
      fun s => (s.queue.map Request.sending, s.rp.window, s.rp.tx.map Transmission.what)) =
    some ([true, false, false], some ⟨[], some 1⟩, some .reply) := by decide +kernel

theorem test_witness_DownstreamChoice :
    (∃ s : State, s.rp.tx = none ∧ (∃ w, s.rp.window = some w ∧ w.setpoints = [(0, 1)]) ∧
      (s.stations.get 0).ready = true) ∧
    (∃ s : State, s.rp.tx = none ∧ s.ownReady = false ∧ s.rp.buffer = [passing]) ∧
    (State.reset.ownReady = false ∧ State.reset.rp.buffer = []) :=
  ⟨⟨{ seat 0 { Station.initial with ready := true } State.reset with
      rp := { State.reset.rp with window := some ⟨[(0, 1)], none⟩ } }, rfl, ⟨_, rfl, rfl⟩, rfl⟩,
    ⟨{ State.reset with rp := { State.reset.rp with buffer := [passing] } }, rfl, rfl, rfl⟩, rfl, rfl⟩

/-- The side is idle with a reply next in the window, behind an unanswered entry. -/
theorem test_witness_DownstreamChoice_reply :
    (∃ s : State, s.rp.tx = none ∧ s.rp.window = some ⟨[], some 2⟩ ∧
      s.queue = [req 1 []] ++ answered false :: [req 2 []] ∧
      (∀ q ∈ [req 1 []], ∀ b, q.state ≠ .answered b false) ∧
      (answered false).state = .answered reply false) ∧
    ([] : List Byte).length < 65536 ∧ ([] : List Byte).length ≤ 1024 := by
  refine ⟨⟨{ State.reset with
      rp := { State.reset.rp with window := some ⟨[], some 2⟩ }
      queue := [req 1 [], answered false, req 2 []] }, rfl, rfl, rfl, ?_, rfl⟩, by decide, by decide⟩
  intro q hq b hb
  rw [List.mem_singleton.1 hq] at hb
  cases hb

/-- R135: the phase entered in one event is worked at the next; R77: the stop timer stops at 10,000,000. -/
theorem test_witness_WindowOpens_timers :
    let t := { inState .stopping with
      sc := { (inState .stopping).sc with stopTimer := 10000000 }
      lu := some { activity .settle with mark := .entered } }
    let b := State.bench (seat 0 t cell) 0
    (b.work .timers).st.lu = some (activity .settle) ∧ (b.work .timers).st.sc.stopTimer = 10000000 ∧
    ((b.work .timers).work .leakWork).st.lu.map Activity.timer = some 1 ∧
    (b.work .leakWork).st.lu.map Activity.timer = some 0 := by decide +kernel

/-- A flywheel expiry with the timer running, and a good CYCLE frame of length 4. -/
theorem test_witness_WindowOpens_event :
    ({ State.reset with tb := ⟨5, true, 0, 0⟩ } : State).tb.running = true ∧
    (frameGood (buildFrame 0 1 1 0 [0, 0, 0, 9]) = true ∧
      (buildFrame 0 1 1 0 [0, 0, 0, 9]).dest ≠ State.reset.rp.addr ∧
      (buildFrame 0 1 1 0 [0, 0, 0, 9]).src ≠ State.reset.rp.addr ∧
      (buildFrame 0 1 1 0 [0, 0, 0, 9]).kind = 1 ∧ (buildFrame 0 1 1 0 [0, 0, 0, 9]).length = 4) := by
  decide +kernel

theorem test_witness_WindowOpens :
    (∃ i, (cell.setups.get i).driveHead ≠ 0) ∧ ∀ i, (State.reset.setups.get i).driveHead = 0 := by
  decide

/-! ### Witnesses: management unit and table store -/

theorem test_witness_ReplyIsFormed :
    (∀ q ∈ [{ req 1 [] with state := .answered reply false }], q.waiting = false) ∧
    (req 2 []).state = .waiting := by decide +kernel

/-- R27: the header of a reply, for a station HELD by PAUSE, one in a safety stop, and one CLOSED record. -/
theorem test_witness_ReplyIsFormed_header :
    let s : State := { seat 1 { inState .stopping with
        sc := { (inState .stopping).sc with stopKind := some .coast, safety := true } }
      (seat 0 { inState .held with sc := { (inState .held).sc with holdReason := some .pause } } State.reset)
      with store := storeOf closedRecord, lineStop := true, flags := { Flags.clear with safety := true } }
    ((s.stations.get 0).sc.state = .held ∧ (s.stations.get 1).sc.state = .stopping) ∧
    s.store.closeQueue = [1] ∧ State.reset.store.closeQueue = [] ∧
    (formReply (req 1 []) ⟨s, .clamped, .status, [7]⟩).bytes =
      [9, 1, 1, 2, 3, 0, 4, 3, 0, 0, 0, 0, 0, 0, 0, 1, 0, 1, 1, 16, 1, 7] := by decide +kernel

theorem test_witness_FirstChecksRefuse :
    ((1, Instr.status) ∈ requestCommands ∧ (21, Instr.cellReset) ∈ requestCommands) ∧
    (req 0 []).kind.toNat = 0 ∧ (req 22 []).kind.toNat = 22 ∧ (req 255 []).kind.toNat = 255 := by
  decide

theorem test_witness_StatusAndCountersAreAnswered :
    State.reset.heads.length = 30 ∧
    (ask 1 [] cell).Asks 1 (req 1 []) ∧ (ask 12 [0] cell).Asks 12 (req 12 [0]) ∧ byteAt [0] 0 = 0 ∧
    byteAt [1] 0 = 1 ∧ 2 ≤ byteAt [2] 0 :=
  ⟨rfl, asks 1 (by decide) _ _, asks 12 (by decide) _ _, by decide, by decide, by decide⟩

/-- A LOAD_VARIANT body. -/
def variantBody (code slot recipe volume : Nat) : List Byte :=
  putU16 code ++ putU8 slot ++ putU8 recipe ++ putU32 volume ++ putU16 1500

/-- A LOAD_VARIANT whose values are in range, put to a state. -/
def variantFits (code slot recipe volume : Nat) (s : State) : Prop :=
  (ask 2 (variantBody code slot recipe volume) s).Asks 2 (req 2 (variantBody code slot recipe volume)) ∧
  u16At (variantBody code slot recipe volume) 0 ≠ 0 ∧
  (byteAt (variantBody code slot recipe volume) 2 ≤ 63 ∨
    byteAt (variantBody code slot recipe volume) 2 = 255) ∧
  byteAt (variantBody code slot recipe volume) 3 ≤ 47 ∧
  100 ≤ u32At (variantBody code slot recipe volume) 4 ∧ u32At (variantBody code slot recipe volume) 4 ≤ 200000

/-- All 64 slots taken by other codes. -/
def fullTable : State :=
  { cell with lib := { cell.lib with variants := List.replicate 64 (some ⟨9, 0, 100, 0, 0⟩) } }

theorem test_witness_VariantIsPlaced :
    (variantFits 7 0 0 100 cell ∧ (ask 2 [] cell).settle.lib.slotOf 7 = some 0 ∧
      (ask 2 [] cell).settle.lib.inUse (.variant 0) = 0) ∧
    (variantFits 8 255 47 200000 cell ∧ (ask 2 [] cell).settle.lib.slotOf 8 = none ∧
      (ask 2 [] cell).settle.lib.variants.findIdx? Option.isNone = some 1) ∧
    (variantFits 8 63 47 100 cell ∧ (ask 2 [] cell).settle.lib.inUse (.variant 63) = 0) ∧
    (variantFits 7 1 0 100 cell) ∧
    (variantFits 8 255 0 100 fullTable ∧ (ask 2 [] fullTable).settle.lib.slotOf 8 = none ∧
      (ask 2 [] fullTable).settle.lib.variants.findIdx? Option.isNone = none) ∧
    (u16At (variantBody 0 0 0 100) 0 = 0 ∧ byteAt (variantBody 7 64 0 100) 2 = 64 ∧
      byteAt (variantBody 7 0 48 100) 3 = 48 ∧ u32At (variantBody 7 0 0 99) 4 = 99 ∧
      u32At (variantBody 7 0 0 200001) 4 = 200001) := by
  refine ⟨⟨⟨asks 2 (by decide) _ _, by decide +kernel⟩, by decide +kernel⟩,
    ⟨⟨asks 2 (by decide) _ _, by decide +kernel⟩, by decide +kernel⟩,
    ⟨⟨asks 2 (by decide) _ _, by decide +kernel⟩, by decide +kernel⟩,
    ⟨asks 2 (by decide) _ _, by decide +kernel⟩,
    ⟨⟨asks 2 (by decide) _ _, by decide +kernel⟩, by decide +kernel⟩, by decide +kernel⟩

/-- One segment of every kind. -/
def everyKind : List Segment :=
  [⟨true, ramp⟩, ⟨false, dwell⟩, ⟨true, listen⟩, ⟨false, .leakStart leakParams⟩, ⟨false, leakWait⟩,
    ⟨false, .call 47⟩, ⟨false, .chain 0⟩, ⟨false, .finish⟩]

theorem test_witness_SegmentEntriesRoundTrip : ∀ g ∈ everyKind, g.inRange = true := by decide

/-- R180: the entry of a RAMP as 11.4 lays it out. -/
theorem test_segment_entry :
    segmentAt [1, 0, 0, 0, 0x0B, 0xB8, 0, 0, 1, 0xF4, 0, 0, 0, 50, 0, 0, 0x0F, 0xA0, 0, 0, 0, 20, 3,
      0, 0, 0, 0, 0, 0, 0] 0 = some ⟨false, ramp⟩ := by decide

def recipeBody : List Byte := putU8 47 ++ putMark true ++ putU8 8 ++ segmentsBytes everyKind

theorem test_witness_RecipeIsLoadedAndReadBack :
    ((ask 3 recipeBody cell).Asks 3 (req 3 recipeBody) ∧
      (ask 3 recipeBody cell).settle.lib.recipes.length = 48 ∧ endsWell everyKind = true ∧
      (ask 3 recipeBody cell).settle.lib.inUse (.recipe 47) = 0 ∧
      (req 7 ([2, 0] ++ putU8 47 ++ [0])).body = [2, 0] ++ putU8 47 ++ [0]) ∧
    (byteAt [0, 0, 0] 2 = 0 ∧ byteAt [0, 0, 33] 2 = 33) ∧
    (byteAt [48, 0, 1] 0 = 48 ∧ byteAt [0, 2, 1] 1 = 2 ∧
      segmentsAt ([0, 0, 1, 9] ++ List.replicate 29 0) 1 3 = none) := by
  refine ⟨⟨asks 3 (by decide) _ _, by decide +kernel⟩, by decide +kernel⟩

/-- R40 check 5: a recipe of one RAMP ends badly. -/
theorem test_witness_RecipeIsLoadedAndReadBack_end :
    segmentsAt ([0, 0, 1] ++ segmentsBytes [⟨false, ramp⟩]) 1 3 = some [⟨false, ramp⟩] ∧
    endsWell [⟨false, ramp⟩] = false ∧ byteAt ([0, 0, 1] ++ segmentsBytes [⟨false, ramp⟩]) 2 = 1 := by
  decide +kernel

/-- A LOAD_LIMITS body of two order lines. -/
def limitsBody (n edge h k : Nat) : List Byte :=
  putU8 n ++ putU32 1 ++ putU32 2 ++ putU32 edge ++ putU8 2
    ++ putU16 h ++ List.replicate 8 1 ++ putU16 k ++ List.replicate 8 1

theorem test_witness_LimitSetIsLoaded :
    ((ask 4 (limitsBody 31 1000000 1 511) cell).Asks 4 (req 4 (limitsBody 31 1000000 1 511)) ∧
      byteAt (limitsBody 31 1000000 1 511) 13 = 2 ∧ byteAt (limitsBody 31 1000000 1 511) 0 ≤ 31 ∧
      u32At (limitsBody 31 1000000 1 511) 1 < u32At (limitsBody 31 1000000 1 511) 5 ∧
      u32At (limitsBody 31 1000000 1 511) 5 < u32At (limitsBody 31 1000000 1 511) 9 ∧
      u32At (limitsBody 31 1000000 1 511) 9 ≤ 1000000 ∧
      (∀ o ∈ orderLinesAt (limitsBody 31 1000000 1 511), 1 ≤ o.order ∧ o.order ≤ 511) ∧
      ((orderLinesAt (limitsBody 31 1000000 1 511)).map OrderLine.order).Nodup ∧
      (ask 4 [] cell).settle.lib.inUse (.limits 31) = 0) ∧
    ¬ ((orderLinesAt (limitsBody 0 3 5 5)).map OrderLine.order).Nodup ∧
    (byteAt (List.replicate 14 0) 13 = 0 ∧ byteAt (List.replicate 14 9) 13 = 9) ∧
    (byteAt (limitsBody 32 3 1 2) 0 = 32 ∧ u32At (limitsBody 0 2 1 2) 9 ≤ u32At (limitsBody 0 2 1 2) 5 ∧
      1000000 < u32At (limitsBody 0 1000001 1 2) 9 ∧
      (∃ o ∈ orderLinesAt (limitsBody 0 3 0 1), o.order = 0 ∨ 511 < o.order) ∧
      ∃ o ∈ orderLinesAt (limitsBody 0 3 1 512), o.order = 0 ∨ 511 < o.order) := by
  refine ⟨⟨asks 4 (by decide) _ _, by decide +kernel⟩, by decide +kernel⟩

/-- A LOAD_ANGLE body. -/
def angleBody (n e first : Nat) (xs : List Int) : List Byte :=
  putU8 n ++ putU16 e ++ putU16 first ++ putU16 xs.length ++ (xs.map putS16).flatten

theorem test_witness_AngleTableIsLoadedInParts :
    ((ask 5 (angleBody 3 16 0 [-32768, 5]) cell).Asks 5 (req 5 (angleBody 3 16 0 [-32768, 5])) ∧
      u16At (angleBody 3 16 0 [-32768, 5]) 5 = 2 ∧ u16At (angleBody 3 16 0 [-32768, 5]) 3 = 0 ∧
      (ask 5 [] cell).settle.lib.inUse (.angle 3) = 0) ∧
    (entryAt (ask 5 [] cell).settle.lib.angles 0 = some ⟨.loading, 16, [1, 2], 0⟩ ∧
      u16At (angleBody 0 16 2 [7]) 3 = 2 ∧ u16At (angleBody 0 16 2 [7]) 1 = 16) ∧
    u16At (angleBody 0 16 3 [7]) 3 = 3 ∧
    (entryAt (ask 5 [] cell).settle.lib.angles 1 = none ∧ u16At (angleBody 1 16 2 [7]) 3 ≠ 0) ∧
    (u16At (angleBody 0 16 0 []) 5 = 0 ∧ u16At (angleBody 0 16 0 (List.replicate 257 0)) 5 = 257) ∧
    (byteAt (angleBody 4 16 0 [7]) 0 = 4 ∧ u16At (angleBody 0 18 0 [7]) 1 % 4 ≠ 0 ∧
      u16At (angleBody 0 12 0 [7]) 1 < 16 ∧ 1024 < u16At (angleBody 0 1028 0 [7]) 1 ∧
      u16At (angleBody 0 16 16 [7]) 1 < u16At (angleBody 0 16 16 [7]) 3 + u16At (angleBody 0 16 16 [7]) 5) ∧
    angleValuesAt (angleBody 3 16 0 [-32768, 5]) = [-32768, 5] := by
  refine ⟨⟨asks 5 (by decide) _ _, by decide +kernel⟩, by decide +kernel⟩

theorem test_witness_EntriesAreDeletedAndRead_contents :
    (entryAt cell.lib.variants 0).isSome = true ∧ (entryAt cell.lib.recipes 0).isSome = true ∧
    (entryAt cell.lib.limits 0).isSome = true ∧ (entryAt cell.lib.angles 0).isSome = true ∧
    cell.lib.contents 0 (.angle 0) = [0, 1, 0, 16, 0, 2, 0, 0, 2, 0, 1, 0, 2] := by decide +kernel

/-- Each selector finds its entry in the cell. -/
def names (sel key : Nat) : Option Entry :=
  match (ask 6 [] cell).settle.lib.named sel key with
  | .ok e => some e
  | .error _ => none

theorem test_witness_EntriesAreDeletedAndRead :
    ((ask 6 [0, 0, 7] cell).Asks 6 (req 6 [0, 0, 7]) ∧ (ask 7 [4, 0, 0, 0] cell).Asks 7 (req 7 [4, 0, 0, 0])) ∧
    (names 0 7 = some (.variant 0) ∧ names 1 0 = some (.variant 0) ∧ names 2 0 = some (.recipe 0) ∧
      names 3 0 = some (.limits 0) ∧ names 4 0 = some (.angle 0)) ∧
    ((ask 6 [] cell).settle.lib.inUse (.variant 0) = 0 ∧
      entryAt (ask 6 [] cell).settle.lib.recipes 47 = none ∧ (ask 6 [] cell).settle.lib.slotOf 8 = none) ∧
    (ask 7 [] cell).settle.lib.beyond 0 (.angle 0) = false ∧ 5 ≤ byteAt [5, 0, 0, 0] 0 := by
  refine ⟨⟨asks 6 (by decide) _ _, asks 7 (by decide) _ _⟩, by decide +kernel⟩

/-- R46, R47: keys out of range, absent entries, and a part beyond the values held. -/
theorem test_witness_EntriesAreDeletedAndRead_refused :
    let named (sel key : Nat) : Option ReplyCode :=
      match cell.lib.named sel key with
      | .ok _ => none
      | .error c => some c
    (named 1 64 = some .badField ∧ named 1 63 = some .noEntry ∧ named 3 32 = some .badField ∧
      named 3 31 = some .noEntry ∧ named 4 4 = some .badField ∧ named 4 3 = some .noEntry ∧
      named 0 0 = some .badField ∧ named 0 8 = some .noEntry ∧ named 5 0 = some .badField) ∧
    (entryAt cell.lib.variants 0).map Variant.code = some 7 ∧
    (ask 7 [1, 0, 63, 0] cell).Asks 7 (req 7 [1, 0, 63, 0]) ∧
    (entryAt cell.lib.angles 0).map (fun x => x.values.length) = some 2 := by
  refine ⟨by decide +kernel, by decide, asks 7 (by decide) _ _, by decide⟩

/-- A station that uses recipe 0 and variant 0, in the cell with their counts at 1. -/
def atWork : State :=
  seat 0
    { runs ramp with
      sc := { (runs ramp).sc with variantSlot := some 0, variantUse := true } }
    { cell with lib := (cell.lib.useRecipe 0).useVariant 0 }

theorem test_witness_ForcedWriteStopsEveryUser :
    (atWork.lib.inUse (.recipe 0) ≠ 0 ∧ State.reset.lib.inUse (.recipe 0) = 0) ∧ atWork.InStep ∧
    ((atWork.bench 0).uses (.recipe 0) = true ∧ (atWork.stations.get 0).sc.state.driving = true) ∧
    (atWork.bench 1).uses (.recipe 0) = false := by
  refine ⟨by decide +kernel, ?_, by decide +kernel, by decide +kernel⟩
  intro i
  refine ⟨?_, ?_, ?_, ?_⟩ <;> revert i <;> decide +kernel

/-- Station 1 in STOPPING by the operator, still using variant 0 with station 0. -/
def stoppingUser : State :=
  seat 1
    { inState .stopping with
      sc := { (inState .stopping).sc with
        variantSlot := some 0, variantUse := true, stopKind := some .coast, stopReason := some .operator
        stopTimer := 7 } }
    { atWork with lib := atWork.lib.useVariant 0 }

/-- A LOAD_VARIANT of variant 0 put to those stations. -/
def reload (force : Bool) : State :=
  { stoppingUser with queue := [{ req 2 (variantBody 7 0 0 100) with force := force }] }

/-- What a table write leaves: its answer, the count of variant 0, and the stops of stations 0 and 1. -/
structure Written where
  code : Option ReplyCode
  payload : Option (List Byte)
  users : Nat
  kind : Option StopKind
  reason : Option StopReason
  timer : Nat
deriving DecidableEq

def afterWrite (c : Instr) (s : State) : Option Written :=
  (nextOf (exec c s)).map fun t =>
    let answer := t.queue.head?.bind fun q => match q.state with
      | .answered a _ => some a
      | .waiting => none
    ⟨answer.map Reply.code, answer.map Reply.payload, t.lib.inUse (.variant 0),
      (t.stations.get 0).sc.stopKind, (t.stations.get 1).sc.stopReason, (t.stations.get 1).sc.stopTimer⟩

/-- R31, R32: a LOAD_VARIANT and a DELETE_ENTRY of variant 0 in use by stations 0 and 1, without and with the
force mark: one station stops, the other keeps its stop, and no use is left. -/
theorem test_witness_ForcedWriteStopsEveryUser_loads :
    (stoppingUser.lib.inUse (.variant 0) = 2 ∧ variantFits 7 0 0 100 stoppingUser ∧
      (ask 2 [] stoppingUser).settle.lib.slotOf 7 = some 0) ∧
    ((stoppingUser.bench 1).uses (.variant 0) = true ∧
      (stoppingUser.stations.get 1).sc.state.driving = false) ∧
    (afterWrite .loadVariant (reload false) =
        some ⟨some .inUse, some [0], 2, none, some .operator, 7⟩ ∧
      afterWrite .loadVariant (reload true) =
        some ⟨some .done, some [1], 0, some .controlled, some .operator, 7⟩) ∧
    afterWrite .deleteEntry { stoppingUser with queue := [{ req 6 [1, 0, 0] with force := true }] } =
      some ⟨some .done, some [1], 0, some .controlled, some .operator, 7⟩ := by
  refine ⟨⟨by decide +kernel, ⟨asks 2 (by decide) _ _, by decide +kernel⟩, by decide +kernel⟩, by decide +kernel,
    by decide +kernel, by decide +kernel⟩

/-- R40, R42, R44: loads of a recipe, a limit set and an angle table that pass their own checks. -/
theorem test_witness_ForcedWriteStopsEveryUser_bodies :
    (byteAt recipeBody 1 = 1 ∧ segmentsAt recipeBody (byteAt recipeBody 2) 3 = some everyKind ∧
      endsWell everyKind = true ∧ byteAt recipeBody 2 = 8) ∧
    (byteAt (limitsBody 0 3 1 2) 13 = 2 ∧ u32At (limitsBody 0 3 1 2) 1 < u32At (limitsBody 0 3 1 2) 5 ∧
      ((orderLinesAt (limitsBody 0 3 1 2)).map OrderLine.order).Nodup) ∧
    (u16At (angleBody 3 16 0 [-32768, 5]) 3 = 0 ∧ u16At (angleBody 3 16 0 [-32768, 5]) 1 = 16) := by
  decide +kernel

/-- A bench with record 1 OPEN, a LISTEN in progress and a leak activity of record 1 in FILL. -/
def tested : Bench :=
  { State.bench (seat 0 { listens with lu := some { activity .fill with timer := 7 } } cell) 0 with
    store := storeOf record }

/-- R76, R150: the stop of a LISTEN with a leak activity in FILL. -/
theorem test_stop_ends_the_test :
    let c := tested.enterStopping .controlled .operator
    (c.st.sc.segment = none ∧ c.st.point = none ∧ c.st.aw.state = .inactive ∧
      c.st.aw.window.map (fun w => (w.state, w.accums)) = some (.abandoned, [])) ∧
    c.st.lu.map (fun a => (a.phase, a.result, a.fillTime)) = some (.vent, some .aborted, some 7) ∧
    c.store.slots.head?.join.map (fun q => (q.segs.map SegResult.outcome, q.leak)) =
      some ([.abandoned], some ⟨.aborted, none, some 7, none, none⟩) := by decide +kernel

/-- A SET_STATION body of a field mask, with heads 1 to 3 and 5 in every numeric field. -/
def setupBody (station mask : Nat) (mode : Byte) : List Byte :=
  putU8 station ++ putU32 mask ++ [1, 2, 3, 0, 0] ++ (List.replicate 8 [0, 0, 0, 5]).flatten
    ++ [mode] ++ [0, 0, 0, 5] ++ [0, 0, 0, 5]

theorem test_witness_SetupIsWritten :
    ((ask 8 (setupBody 3 65535 1) cell).Asks 8 (req 8 (setupBody 3 65535 1)) ∧
      byteAt (setupBody 3 65535 1) 0 = (3 : StNo).val ∧ u32At (setupBody 3 65535 1) 1 < 65536 ∧
      setupChoiceBad (u32At (setupBody 3 65535 1) 1) (setupBody 3 65535 1) = false ∧
      ((ask 8 [] cell).settle.stations.get 3).sc.state = .idle) ∧
    (u32At (setupBody 0 8192 1) 1 % 8192 = 0 ∧ u32At (setupBody 0 1 1) 1 % 8192 ≠ 0 ∧
      ((ask 8 [] atWork).settle.stations.get 0).sc.state ≠ .idle) ∧
    (4 ≤ byteAt (setupBody 4 0 0) 0 ∧ 65536 ≤ u32At (setupBody 0 65536 0) 1 ∧
      setupChoiceBad (u32At (setupBody 0 8192 2) 1) (setupBody 0 8192 2) = true) := by
  refine ⟨⟨asks 8 (by decide) _ _, by decide +kernel⟩, by decide +kernel⟩

/-- A SET_CELL body. -/
def cellBody (mask supply : Byte) : List Byte :=
  [mask] ++ putU32 101325 ++ [supply] ++ putU32 5 ++ putU32 5 ++ putU32 30000

theorem test_witness_CellIsWrittenAndSettingsAreRead :
    ((ask 10 (cellBody 31 30) cell).Asks 10 (req 10 (cellBody 31 30)) ∧ byteAt (cellBody 31 30) 0 < 32 ∧
      badChoice (byteAt (cellBody 31 30) 0) (cellBody 31 30) 1 5 30 = false ∧
      ∀ i, ((ask 10 [] cell).settle.stations.get i).sc.state = .idle) ∧
    (byteAt (cellBody 15 30) 0 < 16 ∧ 16 ≤ byteAt (cellBody 16 0) 0 ∧
      ∃ i, ((ask 10 [] atWork).settle.stations.get i).sc.state ≠ .idle) ∧
    (ask 11 [] cell).Asks 11 (req 11 []) ∧
    ((ask 9 [3] cell).Asks 9 (req 9 [3]) ∧ byteAt [3] 0 = (3 : StNo).val ∧ 4 ≤ byteAt [4] 0) ∧
    (32 ≤ byteAt (cellBody 32 0) 0 ∧
      badChoice (byteAt (cellBody 2 31) 0) (cellBody 2 31) 1 5 30 = true) := by
  refine ⟨⟨asks 10 (by decide) _ _, by decide +kernel⟩, by decide +kernel, asks 11 (by decide) _ _,
    ⟨asks 9 (by decide) _ _, by decide +kernel⟩, by decide +kernel⟩

/-! ### Witnesses: requests of the stations, the store and the outputs -/

theorem test_witness_AdmissionCommits :
    (ask 13 admitBody cell).Asks 13 (req 13 admitBody) ∧
    (byteAt admitBody 0 = (0 : StNo).val ∧ byteAt admitBody 1 = 2 ∧
      byteAt admitBody 4 = 1) ∧
    ((ask 13 [] cell).settle.stations.get 0).sc.state = .idle ∧
    (∀ n ∈ ((ask 13 [] cell).settle.setups.get 0).heads,
      n ≠ 0 ∧ headSynced (ask 13 [] cell).settle.heads n = true) ∧
    (ask 13 [] cell).settle.lib.slotOf (u16At admitBody 2) = some 0 ∧
    entryAt (ask 13 [] cell).settle.lib.variants 0 = some ⟨7, 0, 20000, 1500, 0⟩ ∧
    (entryAt (ask 13 [] cell).settle.lib.recipes 0).isSome = true ∧
    (ask 13 [] cell).settle.store.slots.findIdx? Option.isNone = some 0 := by
  refine ⟨asks 13 (by decide) _ _, by decide +kernel⟩

/-- The cell with its recipe 0 absent, with head 3 UNSYNCED, and with no slot FREE. -/
def noRecipe : State := { cell with lib := { cell.lib with recipes := List.replicate 48 none } }
def noHead : State := { cell with heads := putHead cell.heads 3 HeadEntry.initial }
def noSlot : State := { cell with store := { Store.empty with slots := List.replicate 16 (some record) } }

theorem test_witness_AdmissionIsRefusedInOrder :
    (byteAt [0, 2, 0, 7, 0] 4 = 0 ∧ byteAt [0, 2, 0, 7, 21] 4 = 21 ∧ byteAt (0 :: 2 :: 0 :: 7 :: [20]) 4 = 20) ∧
    (4 ≤ byteAt [4, 0, 0, 7, 1, 65] 0 ∧ 4 ≤ byteAt [0, 4, 0, 7, 1, 65] 1) ∧
    ((ask 13 [] atWork).settle.stations.get 0).sc.state ≠ .idle ∧
    0 ∈ ((ask 13 [] State.reset).settle.setups.get 0).heads ∧
    (ask 13 [] cell).settle.lib.slotOf 8 = none ∧
    entryAt (ask 13 [] noRecipe).settle.lib.recipes 0 = none ∧
    (∃ n ∈ ((ask 13 [] noHead).settle.setups.get 0).heads,
      headSynced (ask 13 [] noHead).settle.heads n = false) ∧
    (∀ o ∈ (ask 13 [] noSlot).settle.store.slots, o ≠ none) := by decide +kernel

theorem test_witness_RunModeIsSet :
    (ask 14 [0, 3] atWork).Asks 14 (req 14 [0, 3]) ∧ byteAt [0, 3] 1 = 3 ∧
    ((ask 14 [] atWork).settle.stations.get 0).sc.state ≠ .idle ∧
    ((ask 14 [] cell).settle.stations.get 0).sc.state = .idle ∧ 4 ≤ byteAt [4, 0] 0 ∧ 4 ≤ byteAt [0, 4] 1 := by
  refine ⟨asks 14 (by decide) _ _, by decide +kernel⟩

/-- Station 0 HELD for a reason at the segment of index 0 of recipe 0. -/
def held (why : HoldReason) : State :=
  seat 0
    { runs ramp with
      sc := { (runs ramp).sc with state := .held, holdReason := some why, index := 0, segment := none } }
    { cell with lib := cell.lib.useRecipe 0 }

theorem test_witness_ResumeTakesUpTheTest :
    (ask 15 [0] (held .pause)).Asks 15 (req 15 [0]) ∧
    (((ask 15 [] (held .pause)).settle.stations.get 0).sc.state = .held ∧
      ((ask 15 [] (held .pause)).settle.stations.get 0).sc.holdReason = some .pause ∧
      (ask 15 [] (held .pause)).settle.lib.segment
        ((ask 15 [] (held .pause)).settle.bench 0).topRecipe 0 = some ⟨false, ramp⟩) ∧
    (((ask 15 [] (held .mode)).settle.stations.get 0).sc.state = .held ∧
      ((ask 15 [] (held .mode)).settle.stations.get 0).sc.holdReason ≠ some .pause) ∧
    ((ask 15 [] cell).settle.stations.get 0).sc.state ≠ .held ∧ 4 ≤ byteAt [4] 0 := by
  refine ⟨asks 15 (by decide) _ _, by decide +kernel⟩

/-- A RAMP at index 0, with the count of executed segments at its last value before RUNAWAY. -/
theorem test_witness_ResumeTakesUpTheTest_begun :
    let b := (held .pause).bench 0
    let c := b.setSc { b.st.sc with executed := 254 }
    c.lib.segment c.topRecipe 0 = some ⟨false, ramp⟩ ∧ ramp.isFlow = false ∧ c.st.sc.executed < 255 ∧
    (advance 257 0 c).st.sc.segment = some ⟨false, ramp⟩ ∧ (advance 257 0 c).st.sc.executed = 255 := by
  decide +kernel

theorem test_witness_AbortStopsTheStation :
    (ask 16 [0] atWork).Asks 16 (req 16 [0]) ∧
    ((ask 16 [] atWork).settle.stations.get 0).sc.state.driving = true ∧
    ((ask 16 [] (seat 3 (inState .stopping) cell)).settle.stations.get 3).sc.state = .stopping ∧
    ((ask 16 [] cell).settle.stations.get 0).sc.state = .idle ∧ 4 ≤ byteAt [4] 0 := by
  refine ⟨asks 16 (by decide) _ _, by decide +kernel⟩

/-- A CLOSED record of more than 512 and of more than 1024 bytes. -/
def longRecord : Record :=
  { closedRecord with segs := List.replicate 64 ⟨0, 0, .ramp, .done, 0, 0, 0, false⟩ }

theorem test_witness_ReportsAreReadAndReleased :
    ((ask 17 [0, 1, 0] cell).Asks 17 (req 17 [0, 1, 0]) ∧ (ask 18 [0, 1] cell).Asks 18 (req 18 [0, 1])) ∧
    findRecord (ask 17 [] cell).settle.store.slots 1 = none ∧
    (findRecord (storeOf record).slots 1 = some record ∧ record.closed = false) ∧
    (findRecord (storeOf longRecord).slots 1 = some longRecord ∧ longRecord.closed = true ∧
      512 * byteAt [0, 1, 2] 2 < longRecord.bytes.length ∧
      longRecord.bytes.length ≤ 512 * byteAt [0, 1, 3] 2) := by
  refine ⟨⟨asks 17 (by decide) _ _, asks 18 (by decide) _ _⟩, by decide +kernel⟩

/-- Station 2 in a safety stop, with LINESTOP. -/
def safetyStop : State :=
  { seat 2 { inState .stopping with sc := { (inState .stopping).sc with safety := true } } cell with
    lineStop := true }

theorem test_witness_OutputsAreCleared :
    ((ask 19 [3] cell).Asks 19 (req 19 [3]) ∧ byteAt [3] 0 = (3 : StNo).val) ∧
    (ask 20 [] cell).Asks 20 (req 20 []) ∧
    (∀ i, ((ask 20 [] cell).settle.stations.get i).sc.state = .stopping →
      ((ask 20 [] cell).settle.stations.get i).sc.safety = false) ∧
    (∃ i, ((ask 20 [] safetyStop).settle.stations.get i).sc.state = .stopping ∧
      ((ask 20 [] safetyStop).settle.stations.get i).sc.safety = true) ∧ 4 ≤ byteAt [4] 0 := by
  refine ⟨⟨asks 19 (by decide) _ _, by decide⟩, asks 20 (by decide) _ _, by decide +kernel⟩

/-- R35, R102, R176: CELL_RESET keeps the entries of the tables and cuts a pulse short. -/
theorem test_reset_keeps_the_tables :
    let u := (seat 0 { listens with ou := { Output.initial with reject := .pulsing, pulseTimer := 3 } }
      { cell with lib := cell.lib.useListen 0 0 }).cellReset
    u.lib = cell.lib ∧ (u.stations.get 0).ou = Output.initial ∧ (u.stations.get 0).aw.state = .inactive := by
  decide +kernel

theorem test_witness_CellResetClearsTheCell :
    (ask 21 [] atWork).Asks 21 (req 21 []) ∧
    ∀ i, ((ask 21 [] atWork).settle.stations.get i).sc.state = .idle →
      ((ask 21 [] atWork).settle.stations.get i).sc = Context.idle ∧
      (((ask 21 [] atWork).settle.stations.get i).dc.enable = false ∧
        ((ask 21 [] atWork).settle.stations.get i).dc.setpoint = 0 ∧
        ((ask 21 [] atWork).settle.stations.get i).dc.torqueLimit = 0) := by
  refine ⟨asks 21 (by decide) _ _, by decide +kernel⟩

/-! ### Witnesses: the steps of a station -/

/-- A step put at a station is due there. -/
theorem due_dueAt (e : StEvent) (t : Station) : (dueAt 0 e t).Due 0 e [] := rfl

/-- A station put to work runs its segment. -/
theorem runs_dueAt (e : StEvent) (g : SegBody) : (dueAt 0 e (runs g)).Runs 0 ⟨false, g⟩ := ⟨rfl, rfl⟩

/-- The closed values of a head: speed, torque, housing pressure and air temperature. -/
def slots (speed torque housing air : Reading) : Slow Reading :=
  ⟨speed, torque, housing, air, .noValue, .noValue⟩

/-- The bench of station 0, a station `t`, with record 1 OPEN and every head's closed cycle reading `r`. -/
def benchOf (t : Station) (r : Slow Reading) : Bench :=
  State.bench (seat 0 t { cell with
    heads := List.replicate 30
      { HeadEntry.initial with state := .synced, closed := ⟨r, false, false⟩ }
    store := storeOf record }) 0

/-- A bench without readings. -/
def quiet (t : Station) : Bench := benchOf t (slots .noValue .noValue .noValue .noValue)

/-- A station RUNNING a segment for a segment timer, its drive otherwise `d`. -/
def supervised (g : SegBody) (timer : Nat) (d : Drive) : Station :=
  { runs g with
    sc := { (runs g).sc with segTimer := timer }
    dc := { d with params := some (motionParams motion (some 4000)) } }

/-- A drive that has reached its target 3000, with its runs of deviation and torque. -/
def reachedAt (dev torque : Nat) : Drive :=
  { Drive.idle with setpoint := 3000, formed := 3000, reached := true, devRun := dev, torqueRun := torque }

theorem test_witness_DueStepsAreDone :
    (dueAt 0 .rampDone (runs ramp)).Due 0 .rampDone [] ∧
    ∀ e rest, ¬ State.reset.Due 0 e rest := ⟨rfl, fun _ _ h => nomatch h⟩

/-- R90 to R94: a third deviation at 51 beyond a band of 50, none at 50; a third excess torque; a steady RAMP;
a RAMP at its limit of 20, and before it; a DWELL of duration 0; the two runs of one event. -/
theorem test_witness_DueStepsAreDone_supervised :
    ((supervised ramp 5 (reachedAt 2 0)).todo = [] ∧ (supervised ramp 5 (reachedAt 2 0)).sc.state = .running ∧
      (supervised ramp 5 (reachedAt 2 0)).sc.segment = some ⟨false, ramp⟩) ∧
    ((benchOf (supervised ramp 5 (reachedAt 2 0)) (slots (.fresh 3051) .noValue .noValue .noValue)).work
        .supervise).st.todo = [.due .speedDeviation] ∧
    ((benchOf (supervised ramp 5 (reachedAt 2 0)) (slots (.held 3050) .noValue .noValue .noValue)).work
        .supervise).st.dc.devRun = 0 ∧
    ((benchOf (supervised ramp 5 (reachedAt 2 2)) (slots .noValue (.held 4001) .noValue .noValue)).work
        .supervise).st.todo = [.due .torqueLimit] ∧
    ((benchOf (supervised ramp 5 (reachedAt 2 2)) (slots (.fresh 0) (.fresh 4001) .noValue .noValue)).work
        .supervise).st.todo = [.due .speedDeviation] ∧
    ((quiet (supervised ramp 20 { reachedAt 0 0 with steady := true })).work .supervise).st.todo =
      [.due .rampDone] ∧
    ((quiet (supervised ramp 20 (reachedAt 0 0))).work .supervise).st.todo = [.due .speedNotReached] ∧
    ((quiet (supervised ramp 19 (reachedAt 0 0))).work .supervise).st.todo = [] ∧
    ((quiet (supervised (.dwell motion 4000 0) 1 (reachedAt 0 0))).work .supervise).st.todo =
      [.due .dwellDone] ∧
    ((quiet (supervised leakWait 100 (reachedAt 0 0))).work .supervise).st.todo =
      [.due .leakWaitTimeout] := by decide +kernel

/-- The work given to a station is done up to the first step due. -/
theorem test_witness_DueStepsAreDone_given :
    (∀ e, Todo.supervise ≠ .due e) ∧
    ((quiet (supervised ramp 20 (reachedAt 0 0))).setTodo []).st.todo = [] ∧
    (runWork [.supervise, .ready] (quiet (supervised ramp 20 (reachedAt 0 0)))).st.todo =
      [.due .speedNotReached, .ready] ∧
    (runWork [.supervise, .ready] (quiet (supervised ramp 19 (reachedAt 0 0)))).st.todo = [] := by
  refine ⟨nofun, by decide +kernel⟩

/-- R79, R80, R126: a standing stop, one still turning at its timeout and before it, and a point at its time
limit of 100. -/
theorem test_witness_DueStepsAreDone_limits :
    (quiet (inState .stopping)).st.todo = [] ∧
    ((benchOf (inState .stopping) (slots (.fresh (-50)) .noValue .noValue .noValue)).work .stopTest).st.todo =
      [.due .stopComplete] ∧
    ((benchOf (inState .stopping) (slots (.fresh 51) .noValue .noValue .noValue)).work .stopTest).st.todo =
      [] ∧
    (let late := { inState .stopping with sc := { (inState .stopping).sc with stopTimer := 30000 } }
     ((quiet late).work .stopLimit).st.todo = [.due .stopTimeout] ∧
     ((quiet (inState .stopping)).work .stopLimit).st.todo = []) ∧
    (let late := { listens with sc := { listens.sc with segTimer := 100 } }
     listens.point = some point ∧ ((quiet late).work .listenLimit).st.todo = [.due .listenTimeLimit] ∧
     ((quiet listens).work .listenLimit).st.todo = []) := by decide +kernel

/-- Station 0 with RAMP_DONE due and a leak activity that waits for its air, its SETPOINT frame first in an open
window and the side idle. -/
def rampThenFill : State :=
  { seat 0
      { runs ramp with
        dc := { Drive.idle with enable := true }
        lu := some (activity .fillWait)
        todo := [.due .rampDone, .ready, .leakWork] } cell with
    supplyOk := true
    rp := { State.reset.rp with window := some ⟨[(0, 1)], none⟩ } }

/-- The first bytes of the frame in transmission, station and marks, and the phase of station 0's activity. -/
def sending (s : State) : Option (List Byte) := s.rp.tx.map fun t => t.frame.payload.take 2
def leakPhase (s : State) : Option LeakPhase := (s.stations.get 0).lu.map Activity.phase

/-- R7, R8: the SETPOINT frame goes when RAMP_DONE has let it become ready, before FILL opens the fill valve,
whether a request or the commands of the two steps do them. -/
theorem test_ready_frame_goes_at_once :
    (sending rampThenFill.settle = some [0, 1] ∧ leakPhase rampThenFill.settle = some .fill) ∧
    let byCommand := (nextOf (exec (.rampDone 0) rampThenFill)).bind fun s => nextOf (exec (.fill 0) s)
    byCommand.bind sending = some [0, 1] ∧ byCommand.bind leakPhase = some .fill := by decide +kernel

/-- R66, R104, R114: a LISTEN that ends beside a collecting window, and a RAMP that ends. -/
theorem test_witness_DoneSegmentsAreRecorded_ended :
    let ended (t : Station) := (seat 0 t { cell with lib := cell.lib.useListen 0 0 }).desk 0
      |>.finishSegment ⟨false, listen⟩ .done
    (listens.point = some point ∧ (runs ramp).point = none) ∧
    ((ended listens).st.aw.state = .inactive ∧
      (ended listens).st.aw.window.map WindowRecord.state = some .abandoned) ∧
    ((ended listens).lib.inUse (.limits 0) = 0 ∧ (ended listens).lib.inUse (.angle 0) = 0) ∧
    (ended (runs ramp)).lib.inUse (.limits 0) = 1 := by decide +kernel

theorem test_witness_DoneSegmentsAreRecorded :
    ((dueAt 0 .rampDone (runs ramp)).Runs 0 ⟨false, ramp⟩ ∧ ramp.kind = .ramp) ∧
    ((dueAt 0 .dwellDone (runs dwell)).Runs 0 ⟨false, dwell⟩ ∧ dwell.kind = .dwell) :=
  ⟨⟨runs_dueAt _ _, rfl⟩, runs_dueAt _ _, rfl⟩

/-- A bench RUNNING in recipe 0 of the given segments, with the chain given and an angle table PRESENT. -/
def stepping (gs : List Segment) (chain : List ChainEntry) : Bench :=
  let b := quiet { runs ramp with sc := { (runs ramp).sc with chain := chain } }
  { b with lib :=
      { b.lib with
        recipes := some ⟨false, gs, 1⟩ :: some ⟨true, [⟨false, ramp⟩, ⟨false, .finish⟩], 0⟩
          :: List.replicate 46 none
        angles := [some ⟨.present, 16, List.replicate 16 0, 0⟩, none, none, none] } }

/-- The stepping bench with one segment before its END. -/
def facing (g : SegBody) : Bench := stepping [⟨false, g⟩, ⟨false, .finish⟩] [⟨0, none⟩]

/-- A chain of 4. -/
def deep : List ChainEntry := [⟨0, some 1⟩, ⟨2, some 1⟩, ⟨3, some 1⟩, ⟨4, none⟩]

/-- R67 to R69, R74: a CALL goes on at index 0 of a deeper chain, one of an absent recipe, of a recipe in the
chain or at depth 4 does not; CHAIN replaces the top; END returns, or empties the chain. -/
theorem test_witness_DoneSegmentsAreRecorded_flow :
    ((facing (.call 1)).lib.segment (facing (.call 1)).topRecipe 0 = some ⟨false, .call 1⟩ ∧
      (facing (.call 1)).st.sc.executed < 255) ∧
    ((advance 257 0 (facing (.call 1))).st.sc.chain = [⟨1, some 1⟩, ⟨0, none⟩] ∧
      (advance 257 0 (facing (.call 1))).st.sc.segment = some ⟨false, ramp⟩ ∧
      (advance 257 0 (facing (.call 1))).st.sc.stopOnFail = true) ∧
    (entryAt (facing (.call 9)).lib.recipes 9 = none ∧
      (advance 257 0 (facing (.call 9))).st.sc.stopReason = some .fault) ∧
    (0 ∈ (facing (.call 0)).st.sc.chain.map ChainEntry.recipe ∧
      (advance 257 0 (facing (.call 0))).store.slots.head?.join.map Record.defects =
        some [⟨.recursion, 2, 1⟩]) ∧
    (let b := stepping [⟨false, .call 1⟩, ⟨false, .finish⟩] deep
     1 ∉ b.st.sc.chain.map ChainEntry.recipe ∧ 4 ≤ b.st.sc.chain.length ∧
     (advance 257 0 b).store.slots.head?.join.map Record.defects = some [⟨.chainDepth, 2, 1⟩]) ∧
    (let b := stepping [⟨false, .chain 1⟩] deep
     (advance 257 0 b).st.sc.chain = ⟨1, some 1⟩ :: deep.tail ∧
     (advance 257 0 b).lib.inUse (.recipe 0) = 0 ∧ (advance 257 0 b).lib.inUse (.recipe 1) = 1) ∧
    ((advance 257 1 (facing ramp)).st.sc.state = .idle ∧
      (advance 257 1 (facing ramp)).store.closeQueue = [1]) ∧
    (let b := facing ramp
     (advance 257 1 (b.setLu (some (activity .vent)))).st.sc.state = .finishing) := by decide +kernel

/-- R61, R65, R66, R74, R95, R96, R134: the 256th segment; a PAUSE in run mode RUN; a LEAK_START beside an
activity and alone; a LEAK_WAIT with and without one. -/
theorem test_witness_DoneSegmentsAreRecorded_begun :
    (let b := facing ramp
     (advance 257 0 (b.setSc { b.st.sc with executed := 255 })).st.todo = [.due .runaway]) ∧
    (let b := stepping [⟨true, ramp⟩, ⟨false, .finish⟩] [⟨0, none⟩]
     let c : Bench := { b with st := { b.st with mode := .run } }
     c.st.sc.pauseRelease = false ∧ (advance 257 0 c).st.sc.holdReason = some .pause) ∧
    (advance 257 0 (facing dwell)).st.sc.segment = some ⟨false, dwell⟩ ∧
    ((advance 257 0 (facing (.leakStart leakParams))).st.lu.map Activity.mark = some .started ∧
      (advance 257 0 (facing (.leakStart leakParams))).flags.airShort = true) ∧
    ((advance 257 0 ((facing (.leakStart leakParams)).setLu (some (activity .vent)))).store.slots.head?.join.map
      Record.segs).map (List.map SegResult.outcome) = some [.failed] ∧
    ((facing leakWait).setLu (some (activity .vent))).st.lu ≠ none ∧
    (advance 257 0 ((facing leakWait).setLu (some (activity .vent)))).st.sc.segment =
      some ⟨false, leakWait⟩ ∧
    ((advance 257 0 (facing leakWait)).store.slots.head?.join.map Record.segs).map
      (List.map SegResult.outcome) = some [.done] := by decide +kernel

/-- R95, R104, R116, R117: a LISTEN without its limit set, without an angle table, beyond 16384 positions, with
every line out of range (E = 16 and h = 8), and one that begins. -/
theorem test_witness_DoneSegmentsAreRecorded_listen :
    (let b := facing (.listen motion 100 31 1 3)
     entryAt b.lib.limits 31 = none ∧ (advance 257 0 b).st.sc.stopReason = some .fault) ∧
    (let b := facing listen
     let bare : Bench := { b with lib := cell.lib }
     (entryAt bare.lib.angles 0).map AngleTable.state = some .loading ∧
     (entryAt b.lib.angles 0).map (fun e => e.e * 1024) = some 16384 ∧
     (advance 257 0 (facing (.listen motion 100 0 1025 3))).st.sc.stopReason = some .fault) ∧
    (let b := facing listen
     let wide : Bench := { b with lib := { b.lib with
       limits := [some ⟨1, 2, 3, [⟨8, ⟨9, 9, 9, 9⟩⟩], 0⟩] } }
     ((advance 257 0 wide).store.slots.head?.join.map Record.segs).map (List.map SegResult.outcome) =
       some [.notJudged]) ∧
    ((advance 257 0 (facing listen)).st.aw.state = .seeking ∧
      (advance 257 0 (facing listen)).st.point.map Point.lines = some
        [⟨1, ⟨9, 9, 9, 9⟩, true, 0, 0, .undecided, [], none⟩]) := by decide +kernel

theorem test_witness_FailedChecksEndTheSegment :
    (dueAt 0 .speedNotReached (runs ramp)).Runs 0 ⟨false, ramp⟩ ∧
    (dueAt 0 .torqueLimit (runs dwell)).Runs 0 ⟨false, dwell⟩ ∧
    (dueAt 0 .speedDeviation (runs listen)).Runs 0 ⟨false, listen⟩ ∧
    ((dueAt 0 .leakWaitTimeout (runs leakWait)).Runs 0 ⟨false, leakWait⟩ ∧ leakWait.kind = .leakWait) :=
  ⟨runs_dueAt _ _, runs_dueAt _ _, runs_dueAt _ _, runs_dueAt _ _, rfl⟩

theorem test_witness_TripsAndFaultsStopTheStation :
    ((dueAt 0 .feedbackLost (runs ramp)).Due 0 .feedbackLost [] ∧
      ((dueAt 0 .feedbackLost (runs ramp)).stations.get 0).sc.state ≠ .idle) ∧
    ((dueAt 0 .runaway (runs ramp)).Due 0 .runaway [] ∧
      ((dueAt 0 .runaway (runs ramp)).stations.get 0).sc.state.driving = true) ∧
    ((storeOf record).At 0 record ∧ record.id = (runs ramp).sc.recordId ∧ record.closed = false) :=
  ⟨⟨rfl, by decide⟩, ⟨rfl, rfl⟩, rfl, rfl, rfl⟩

/-- R61, R62, R81: the defect of a trip and of a fault carries the executed-segment count; two trips of one event
join in their order. -/
theorem test_defects_carry_the_ordinal :
    let b (e : Nat) := benchOf { runs ramp with sc := { (runs ramp).sc with executed := e } }
      (slots (.fresh 1) (.fresh 1) .noValue .noValue)
    let found (c : Bench) := (c.store.slots.head?.join.map Record.defects).getD []
    found ((b 5).work .trips) = [⟨.overspeed, 5, 1⟩, ⟨.overtorque, 5, 1⟩] ∧
    found ((b 5).perform .feedbackLost) = [⟨.feedbackLost, 5, 1⟩] ∧
    found ((b 256).perform .runaway) = [⟨.runaway, 256, 1⟩] := by decide +kernel

/-- R99, R100: an overspeed of 1 with its latch clear trips, with its latch set it does not; the feedback run
reaches the timeout of 10; a trip in STOPPING keeps its reason. -/
theorem test_witness_TripsAndFaultsStopTheStation_trips :
    (let turning (latch : Bool) (run : Nat) (r : Reading) : Bench :=
       benchOf { runs ramp with
         dc := { Drive.idle with enable := true, latchSpeed := latch, feedback := run } }
         (slots r .noValue .noValue .noValue)
     (turning false 0 (.fresh 1)).st.sc.state ≠ .idle ∧
     (turning false 0 (.fresh 1)).setup.tripSpeed = 0 ∧
     ((turning false 0 (.fresh 1)).work .trips).st.sc.stopReason = some .safety ∧
     ((turning true 0 (.fresh 1)).work .trips).st.sc.state = .running ∧
     ((turning true 0 (.fresh 0)).work .trips).st.dc.latchSpeed = false ∧
     ((turning false 9 (.held 5)).work .trips).st.todo = [.due .feedbackLost] ∧
     ((turning false 8 (.held 5)).work .trips).st.todo = []) ∧
    (quiet (inState .idle)).st.sc.state = .idle ∧
    (let b := benchOf { inState .stopping with sc := { (inState .stopping).sc with stopReason := some .fault } }
       (slots .noValue (.fresh (-1)) .noValue .noValue)
     (b.work .trips).st.sc.stopReason = some .fault ∧ (b.work .trips).lineStop = true) ∧
    (DefectCode.noLimits ∈ [DefectCode.noRecipe, .recursion, .chainDepth, .noLimits, .noAngle, .runaway] ∧
      (quiet (runs ramp)).st.sc.state.driving = true) := by decide +kernel

theorem test_witness_StopsEndInAClosedRecord :
    ((dueAt 0 .stopComplete (inState .stopping)).Due 0 .stopComplete [] ∧
      (dueAt 0 .stopTimeout (inState .stopping)).Due 0 .stopTimeout [] ∧
      ((dueAt 0 .stopTimeout (inState .stopping)).stations.get 0).sc.state = .stopping) ∧
    (inState .stopping).sc.state ≠ .idle ∧
    (storeOf record).verdictAtClose (inState .stopping).sc.recordId none = some .pass :=
  ⟨⟨rfl, rfl, rfl⟩, by decide, by decide +kernel⟩

/-- An output unit in a reject state with triggers waiting. -/
def outputs (x : RejectState) (n : Nat) : Output := { Output.initial with reject := x, pending := n }

theorem test_witness_VerdictsDriveTheOutputs :
    (Verdict.fail ≠ .pass ∧ Verdict.fail ≠ .aborted) ∧ (outputs .ready 0).reject = .ready ∧
    ((outputs .caught 3).reject ≠ .ready ∧ (outputs .caught 3).pending < 4) ∧
    ((outputs .pulsing 4).reject ≠ .ready ∧ 4 ≤ (outputs .pulsing 4).pending) ∧
    Setup.initial.rejectMode = .pulse ∧ { Setup.initial with rejectMode := .catch }.rejectMode = .catch := by
  decide

/-- R171: a pulse of W = 1 and a recovery of R = 0 are over at the first event, a pulse at 1 of 3 is not. -/
theorem test_witness_VerdictsDriveTheOutputs_work :
    (let b (x : RejectState) (w : Nat) := quiet { Station.initial with ou := { outputs x 0 with width := w } }
     (b .pulsing 3).setup.rejectMode = .pulse ∧ (b .pulsing 3).st.todo = [] ∧
     ((b .pulsing 1).work .outputs).st.todo = [.due .pulseEnd] ∧
     ((b .pulsing 3).work .outputs).st.todo = [] ∧ ((b .pulsing 3).work .outputs).st.ou.pulseTimer = 1 ∧
     ((b .recovering 1).work .outputs).st.todo = [.due .recoveryEnd] ∧
     ((b .ready 1).work .outputs).st = (b .ready 1).st) := by decide +kernel

theorem test_witness_PulsesAndRecoveriesEnd :
    (dueAt 0 .pulseEnd { Station.initial with ou := outputs .pulsing 1 }).Due 0 .pulseEnd [] ∧
    (dueAt 0 .recoveryEnd { Station.initial with ou := outputs .recovering 1 }).Due 0 .recoveryEnd [] ∧
    (outputs .recovering 0).pending = 0 ∧ 0 < (outputs .recovering 1).pending ∧
    Setup.initial.recovery = 0 ∧ { Setup.initial with recovery := 250 }.recovery ≠ 0 := by
  refine ⟨rfl, rfl, by decide⟩

/-- The closing set of a window. -/
def closing : StEvent := .windowClose ⟨5, 6, 1⟩ 1

/-- The listening station with drive control at a target last formed. -/
def listensAt (t : Int) : Station := { listens with dc := { Drive.idle with formed := t } }

theorem test_witness_WindowCloseJudgesTheWindow :
    ((dueAt 0 closing (listensAt 3000)).Due 0 closing [] ∧
      ((dueAt 0 closing (listensAt 3000)).stations.get 0).aw.state = .collecting ∧
      ((dueAt 0 closing (listensAt 3000)).stations.get 0).aw.window = some window ∧
      ((dueAt 0 closing (listensAt 3000)).stations.get 0).aw.params = some listenParams ∧
      ((dueAt 0 closing (listensAt 3000)).stations.get 0).point = some point) ∧
    roundDiv (19200000 * listenParams.n) window.ts = 3000 ∧
    (¬ (listensAt 3000).dc.band < ((3000 : Int) - ((listensAt 3000).dc.formed.natAbs : Int)).natAbs ∧
      (listensAt 2999).dc.band < ((3000 : Int) - ((listensAt 2999).dc.formed.natAbs : Int)).natAbs) :=
  ⟨⟨rfl, rfl, rfl, rfl, rfl⟩, by decide, by decide, by decide⟩

/-- A listening station with an angle unit state, a last angle and a window; steady drive. -/
def seeks (x : UnitState) (l : Option Half) (w : WindowRecord) : Bench :=
  quiet { listens with
    dc := { Drive.idle with steady := true }
    aw := { listens.aw with state := x, lastAngle := l, window := some w } }

/-- R109: a unit that is SEEKING with a last angle; a point that is unsettled, one exhausted, one settled. -/
theorem test_witness_WindowCloseJudgesTheWindow_tests :
    ((seeks .seeking (some 8) window).st.aw.state = .seeking ∧
      (seeks .seeking (some 8) window).st.aw.lastAngle = some 8) ∧
    (quiet listens).exhausted = false ∧ (quiet listens).pointSettled = false ∧
    (quiet { listens with aw := { listens.aw with attempts := 3 } }).exhausted = true ∧
    (quiet { listens with
      point := some { point with lines := [{ line with verdict := .pass }] } }).pointSettled = true := by
  decide +kernel

/-- R103, R105: an INACTIVE unit without parameters and point, and a unit whose first window is still to come. -/
theorem test_witness_WindowCloseJudgesTheWindow_first :
    let idle := quiet { Station.initial with aw := { AngleUnit.initial with lastAngle := some 5 } }
    let first := quiet { listens with
      dc := { Drive.idle with steady := true }
      aw := { listens.aw with state := .seeking, lastAngle := some 5, window := none } }
    (idle.st.aw.state = .inactive ∧ idle.st.aw.params = none ∧ idle.st.point = none) ∧
    ((idle.work (.sampleSet ⟨1, 2, 9⟩)).st.aw = { AngleUnit.initial with lastAngle := some 9 } ∧
      (idle.work .gap).st.aw = AngleUnit.initial) ∧
    first.st.aw.params = some listenParams ∧
    (first.work (.sampleSet ⟨1, 2, 4⟩)).st.aw.window = some
      { startAngle := 4, direction := .down, k := 0, ts := 0, speed := none, state := .collecting
        reason := none, accums := [⟨0, 0⟩] } := by decide +kernel

/-- What the angle unit has after work: its state, its voids and the steps due. -/
def angleWork (t : Todo) (b : Bench) : UnitState × Nat × List Todo :=
  ((b.work t).st.aw.state, (b.work t).st.aw.voids, (b.work t).st.todo)

/-- R105, R106: a step of 1 starts a window, also over the end of the circle; a step of 0, of 1, of 2 and back
while COLLECTING; the 16th step closes; T_s at 65,535 is SLOW. -/
theorem test_witness_WindowCloseJudgesTheWindow_sets :
    (((seeks .seeking (some 0xFFFF) window).st.aw.params = some listenParams ∧
      (seeks .seeking (some 0xFFFF) window).st.point = some point ∧
      (seeks .seeking none window).st.aw.lastAngle = none) ∧
      headSynced (seeks .seeking (some 0xFFFF) window).heads
        (seeks .seeking (some 0xFFFF) window).setup.vibrationHead = true) ∧
    angleWork (.sampleSet ⟨5, 6, 0⟩) (seeks .seeking (some 0xFFFF) window) = (.collecting, 0, []) ∧
    angleWork (.sampleSet ⟨5, 6, 0⟩) (seeks .seeking (some 0) window) = (.seeking, 0, []) ∧
    angleWork (.sampleSet ⟨5, 6, 8⟩) (seeks .collecting (some 8) window) = (.collecting, 0, []) ∧
    angleWork (.sampleSet ⟨5, 6, 9⟩) (seeks .collecting (some 8) { window with k := 14 }) =
      (.collecting, 0, []) ∧
    angleWork (.sampleSet ⟨5, 6, 9⟩) (seeks .collecting (some 8) { window with k := 15 }) =
      (.collecting, 0, [.due (.windowClose ⟨5, 6, 9⟩ 1)]) ∧
    angleWork (.sampleSet ⟨5, 6, 10⟩) (seeks .collecting (some 8) window) = (.seeking, 1, []) ∧
    angleWork (.sampleSet ⟨5, 6, 7⟩) (seeks .collecting (some 8) window) = (.seeking, 1, []) ∧
    angleWork (.sampleSet ⟨5, 6, 7⟩) (seeks .collecting (some 8) { window with ts := 65534 }) =
      (.seeking, 1, []) ∧
    angleWork (.sampleSet ⟨5, 6, 9⟩) (seeks .collecting (some 8) { window with ts := 65535 }) =
      (.collecting, 0, [.due .slow]) := by decide +kernel

/-- R110, R111: a gap, an absent cycle, and an unsteady drive. -/
theorem test_witness_WindowCloseJudgesTheWindow_voids :
    angleWork .gap (seeks .collecting (some 8) window) = (.seeking, 1, []) ∧
    ((seeks .collecting (some 8) window).work .gap).st.aw.lastAngle = none ∧
    angleWork .absent (seeks .collecting (some 8) window) = (.seeking, 1, []) ∧
    ((seeks .collecting (some 8) window).work .absent).st.aw.lastAngle = some 8 ∧
    angleWork .steadyTest (seeks .collecting (some 8) window) = (.collecting, 0, []) ∧
    angleWork .steadyTest (quiet listens) = (.seeking, 1, []) := by decide +kernel

theorem test_witness_SlowWindowIsVoid :
    (dueAt 0 .slow listens).Due 0 .slow [] ∧
    ((dueAt 0 .slow listens).stations.get 0).aw.state = .collecting ∧
    ((dueAt 0 .slow listens).stations.get 0).aw.window = some window ∧
    ((dueAt 0 .slow listens).stations.get 0).point = some point := ⟨rfl, rfl, rfl, rfl⟩

theorem test_witness_PointIsFinished :
    ((dueAt 0 .listenCutOff listens).Runs 0 ⟨false, listen⟩ ∧ listen.kind = .listen ∧
      ((dueAt 0 .listenCutOff listens).stations.get 0).point = some point ∧
      (dueAt 0 .listenCutOff listens).Due 0 .listenCutOff []) ∧
    (dueAt 0 .listenTimeLimit listens).Due 0 .listenTimeLimit [] ∧
    ((storeOf record).At 0 record ∧ record.id = listens.sc.recordId ∧ record.closed = false) :=
  ⟨⟨⟨rfl, rfl⟩, rfl, rfl, rfl⟩, rfl, rfl, rfl, rfl⟩

/-- A record of so many segment results FAILED and order results, with a leak result PASS. -/
def filled (m n : Nat) : Record :=
  { record with
    segs := List.replicate m ⟨0, 0, .ramp, .failed, 0, 0, 0, false⟩
    orders := List.replicate n ⟨1, 1, none, .pass, [], 0⟩
    leak := some ⟨.pass, none, none, none, none⟩ }

/-- R156 to R158, R160: the 64th and the 65th segment result, the 32nd and the 33rd order result, and a second
leak result. -/
theorem test_witness_PointIsFinished_entries :
    let s (n : Nat) := (filled n 0).addSegment ⟨0, 0, .ramp, .notJudged, 0, 0, 0, false⟩
    let o (n : Nat) := (filled 0 n).addOrder ⟨1, 1, none, .fail, [], 0⟩
    let x : LeakResult := ⟨.notJudged, some .timeout, none, none, none⟩
    ((s 63).segs.length = 64 ∧ (s 63).segsTruncated = false ∧ (s 64).segs.length = 64 ∧
      (s 64).segsTruncated = true ∧ (s 64).basis = { record.basis with gap := true }) ∧
    ((o 31).orders.length = 32 ∧ (o 31).ordersTruncated = false ∧ (o 32).orders.length = 32 ∧
      (o 32).ordersTruncated = true ∧ (o 32).basis = { record.basis with fail := true }) ∧
    ((filled 0 0).placeLeak x).leak = some x ∧
    ((filled 0 0).placeLeak x).basis = { record.basis with gap := true } := by decide +kernel

/-- R159: a code in the list, a new one, and a ninth. -/
theorem test_witness_PointIsFinished_defects :
    let full : Record := { record with defects := List.replicate 8 ⟨.noiseOrder, 1, 255⟩ }
    (∃ d ∈ full.defects, d.code = .noiseOrder) ∧ (∀ d ∈ full.defects, d.code ≠ .leakRate) ∧
    8 ≤ full.defects.length ∧ record.defects.length < 8 ∧
    (full.addDefect .noiseOrder 2).defects = full.defects ∧
    (record.addDefect .leakRate 2).defects = [⟨.leakRate, 2, 1⟩] := by decide +kernel

/-- Station 0 with a leak activity. -/
def leaks (a : Activity) : Station := { runs leakWait with lu := some a }

theorem test_witness_LeakPhasesAreEntered :
    (dueAt 0 .fill { listens with lu := some (activity .fillWait) }).Due 0 .fill [] ∧
    (dueAt 0 .settle (leaks (activity .fill))).Due 0 .settle [] ∧
    (dueAt 0 .measure (leaks (activity .settle))).Due 0 .measure [] ∧
    (dueAt 0 .startBlock (leaks { activity .measure with block := some ⟨1877168, 16, 40⟩ })).Due 0
      .startBlock [] ∧
    ((activity .fill).mark = .old ∧ listens.aw.state = .collecting ∧
      (runs leakWait).aw.state ≠ .collecting) := by
  refine ⟨rfl, rfl, rfl, rfl, by decide⟩

/-- The activity of 8.9 with both blocks full. -/
def measured : Activity :=
  { activity .measure with block := some ⟨16 * 117033, 16, 10040⟩, bStart := some (117323, 40) }

theorem test_witness_EndBlockJudgesTheLeak :
    (dueAt 0 .endBlock (leaks measured)).Due 0 .endBlock [] ∧
    ((dueAt 0 .endBlock (leaks measured)).stations.get 0).lu = some measured ∧
    measured.phase = .measure ∧ measured.block = some ⟨16 * 117033, 16, 10040⟩ ∧
    measured.bStart = some (117323, 40) := ⟨rfl, rfl, rfl, rfl, rfl⟩

/-- 8.9: the result of the worked case is FAIL with reason LEAK_RATE. -/
theorem test_end_block :
    (((nextOf (exec (.endBlock 0) { dueAt 0 .endBlock (leaks measured) with store := storeOf record })).bind
      fun s => (s.stations.get 0).lu).map fun a => (a.phase, a.computed, a.result, a.reason))
    = some (.vent, some ⟨117033, 10000, ⟨34345, false, false⟩⟩, some .fail, some .leakRate) := by
  decide +kernel

/-- The pressure 20000 at 30 degrees, fresh, and a steady drive: what the leak unit does in an event. -/
def leakWork (p : Reading) (a : Activity) : Bench :=
  (benchOf { leaks a with dc := { Drive.idle with steady := true } }
    (slots .noValue .noValue p (.fresh 3000))).work .leakWork

/-- R140 to R142: an eligible cycle begins a block and fills it; a held pressure breaks it, and at the deadline
of 40 + 10000 + 16 disturbs; before s + M no block is formed. -/
theorem test_witness_EndBlockJudgesTheLeak_work :
    let m := { activity .measure with clock := 39, measureEntry := some 39 }
    let e := { m with bStart := some (117323, 40), clock := 10038 }
    (m.phase = .measure ∧ m.mark = .old ∧ m.bStart = none) ∧
    ((leakWork (.fresh 20000) m).st.lu.bind Activity.block = some ⟨117323, 1, 40⟩ ∧
      (leakWork (.fresh 20000) { m with block := some ⟨0, 15, 25⟩ }).st.todo = [.due .startBlock]) ∧
    ((leakWork (.held 20000) { m with block := some ⟨0, 15, 25⟩ }).st.lu.bind Activity.block = none ∧
      (leakWork (.held 20000) { m with clock := 54 }).st.todo = [.due .disturbed] ∧
      (leakWork (.held 20000) { m with clock := 53 }).st.todo = []) ∧
    ((leakWork (.fresh 20000) e).st.lu.bind Activity.block = none ∧
      (leakWork (.fresh 20000) { e with clock := 10039 }).st.lu.bind Activity.block =
        some ⟨117323, 1, 10040⟩ ∧
      (leakWork (.held 20000) { e with clock := 10055 }).st.todo = [.due .disturbed]) := by decide +kernel

/-- R145, R147: the FAIL of the worked case reaches the record that owns the activity, and no other. -/
theorem test_witness_EndBlockJudgesTheLeak_record :
    measured.owner = (leaks measured).sc.recordId ∧ { measured with owner := 2 }.owner ≠ 1 ∧
    ((nextOf (exec (.endBlock 0) { dueAt 0 .endBlock (leaks measured) with store := storeOf record })).map
      fun s => s.store.slots.head?.join.map fun q => (q.defects.map DefectEntry.code,
        q.leak.map LeakResult.reason)) = some (some ([.leakRate], some (some .leakRate))) := by
  decide +kernel

/-- R135 to R138, R146: what falls due in the other phases, an activity started or a phase entered in the event
apart. -/
theorem test_witness_UnfinishedLeakTestsVent_work :
    ((leakWork .noValue { activity .fillWait with timer := 4999 }).st.todo = [.due .supplyWaitLimit] ∧
      (leakWork .noValue (activity .fillWait)).st.todo = []) ∧
    ((leakWork (.fresh 20000) (activity .fill)).st.todo = [.due .settle] ∧
      (leakWork (.held 20000) { activity .fill with timer := 99 }).st.todo = [.due .grossLeak]) ∧
    (leakWork .noValue { activity .settle with timer := 9 }).st.todo = [.due .measure] ∧
    ((leakWork (.fresh 500) (activity .vent)).st.todo = [.due .ventDone] ∧
      (leakWork (.fresh 501) { activity .vent with timer := 99 }).st.todo = [.due .ventTimeout] ∧
      (leakWork (.fresh 501) (activity .vent)).st.todo = []) ∧
    (leakWork .noValue { activity .fillWait with mark := .started }).st.lu =
      some { activity .fillWait with mark := .started } ∧
    (leakWork .noValue { activity .settle with mark := .entered }).st.lu =
      some { activity .settle with mark := .entered, clock := 1 } := by decide +kernel

/-- R148: a station RUNNING another segment, and one in LEAK_WAIT. -/
theorem test_witness_VentsEndInDone_segment :
    ((quiet (runs ramp)).st.sc.state = .running ∧ (quiet (runs ramp)).st.sc.segment = some ⟨false, ramp⟩ ∧
      (quiet (runs ramp)).tellLeakDone.st = (quiet (runs ramp)).st) ∧
    ramp.kind ≠ .leakWait ∧ (quiet (runs leakWait)).tellLeakDone.st.sc.segment ≠ some ⟨false, leakWait⟩ := by
  decide +kernel

theorem test_witness_UnfinishedLeakTestsVent :
    ((dueAt 0 .supplyWaitLimit (leaks (activity .fillWait))).Due 0 .supplyWaitLimit [] ∧
      (activity .fillWait).phase = .fillWait ∧ (activity .fillWait).owner = (runs leakWait).sc.recordId) ∧
    ((dueAt 0 .grossLeak (leaks (activity .fill))).Due 0 .grossLeak [] ∧ (activity .fill).phase = .fill) ∧
    ((dueAt 0 .disturbed (leaks (activity .measure))).Due 0 .disturbed [] ∧
      (activity .measure).phase = .measure) := ⟨⟨rfl, rfl, rfl⟩, ⟨rfl, rfl⟩, rfl, rfl⟩

/-- An activity in FILL of the station's own record, and one of another. -/
theorem test_witness_UnfinishedLeakTestsVent_fixed :
    let b (owner : Nat) := quiet (leaks { activity .fill with owner := owner })
    (b 1).st.lu = some (activity .fill) ∧ (b 1).st.sc.recordId = 1 ∧
    (((b 1).fixLeak .aborted none none).store.slots.head?.join.bind Record.leak).isSome = true ∧
    ((b 2).fixLeak .aborted none none).store = (b 2).store ∧
    ((quiet (leaks (activity .vent))).fixLeak .aborted none none).st.lu = some (activity .vent) := by
  decide +kernel

theorem test_witness_VentsEndInDone :
    (dueAt 0 .ventDone (leaks (activity .vent))).Due 0 .ventDone [] ∧
    (dueAt 0 .ventTimeout (leaks (activity .vent))).Due 0 .ventTimeout [] ∧
    (leaks (activity .vent)).sc.segment = some ⟨false, leakWait⟩ ∧
    ((inState .finishing).sc.state = .finishing ∧ (inState .stopping).sc.state = .stopping ∧
      (inState .held).sc.state = .held) := ⟨rfl, rfl, rfl, rfl, rfl, rfl⟩

theorem test_witness_StationStepsStayAtHome :
    (∃ t, exec (stationCommand 0 .rampDone) (dueAt 0 .rampDone (runs ramp)) = .next t) ∧
    ((storeOf { record with id := 2 }).At 0 { record with id := 2 } ∧ 2 ≠ (runs ramp).sc.recordId) :=
  ⟨⟨_, rfl⟩, rfl, by decide⟩

/-! ### Witnesses: figures and invariants -/

/-- A bench of a station with max speed 25000 and a setpoint. -/
def turning (x : StState) (v : Int) : Bench :=
  { State.bench cell 0 with
    st := { runs ramp with
      sc := { (runs ramp).sc with state := x, stopKind := some .controlled }
      dc := { Drive.idle with setpoint := v, params := some (motionParams motion none) } } }

theorem test_witness_SetpointMovesByTheRate :
    ((turning .running 2500).st.sc.state ≠ .idle ∧
      (turning .running 2500).st.dc.setpoint.natAbs ≤ 25000 ∧ (3000 : Int).natAbs ≤ 25000 ∧
      ((3000 : Int) - 2500).natAbs ≤ 500) ∧
    (500 < ((3000 : Int) - 2499).natAbs ∧ (turning .stopping 2500).st.sc.stopKind ≠ some .coast) := by
  decide +kernel

/-- R84, R88, R94: a driving station, one in a COAST stop, an IDLE one, and one in a DWELL. -/
theorem test_witness_SetpointMovesByTheRate_states :
    let coasting := (turning .stopping 2500).setSc
      { (turning .stopping 2500).st.sc with stopKind := some .coast }
    (coasting.st.sc.state ≠ .idle ∧ coasting.st.sc.stopKind = some .coast ∧
      coasting.form.st.dc.enable = false) ∧
    (turning .idle 0).st.sc.state = .idle ∧
    (quiet (supervised dwell 1 (reachedAt 0 0))).st.sc.segment = some ⟨false, dwell⟩ ∧
    ((quiet (supervised dwell 1 (reachedAt 0 0))).work .form).st.dc.dwell = 1 := by decide +kernel

/-- The largest sum whose scaled square is below 2^58. -/
def largest : Int := 32768 * (2 ^ 29 - 1)

theorem test_witness_MagnitudeIsTheExactRoot :
    (scale largest).natAbs * (scale largest).natAbs < 2 ^ 58 ∧
    (scale (-largest)).natAbs * (scale (-largest)).natAbs < 2 ^ 58 := by decide +kernel

theorem test_witness_LevelsAreRounded :
    (2 * 32767 + 1 / 2) / 1 ≤ 65535 ∧ 65535 < (2 * 32768 + 1 / 2) / 1 := by decide

/-- R122, R123: bands at and below an edge; a level equal to its limit, and the second exceed and clear. -/
theorem test_witness_LevelsAreRounded_vote :
    (point.edge1 < point.edge2 ∧ point.edge2 < point.edge3 ∧ point.lines.length = window.accums.length) ∧
    (point.bandOf 0 = 0 ∧ point.bandOf 1 = 1 ∧ point.bandOf 2 = 2 ∧ point.bandOf 3 = 3) ∧
    (line.count 3 ⟨9, false⟩).clear = 1 ∧ (line.count 0 ⟨10, false⟩).exceed = 1 ∧
    ({ line with exceed := 1, clear := 1 }.count 0 ⟨10, false⟩).verdict = .fail ∧
    ({ line with exceed := 1, clear := 1 }.count 0 ⟨9, false⟩).verdict = .pass ∧
    { line with verdict := .fail }.count 0 ⟨9, false⟩ = { line with verdict := .fail } := by decide

theorem test_witness_NextIdIsFresh :
    (storeOf closedRecord).slots.length ≤ 16 ∧ (storeOf closedRecord).slots[1]? = some none ∧
    (storeOf closedRecord).idCounter ≤ 65535 ∧
    ({ storeOf closedRecord with idCounter := 65535 } : Store).idCounter ≤ 65535 := by decide +kernel

/-- A step due, work that waits, and no work; a head whose run has reached 3, and one whose run has not. -/
theorem test_witness_SettlingLeavesNothingDue :
    (dueAt 0 .rampDone (runs ramp)).Due 0 .rampDone [] ∧
    ((seat 0 { Station.initial with todo := [.ready] } cell).stations.get 0).todo = [.ready] ∧
    (∀ e, Todo.ready ≠ .due e) ∧ State.reset.AllDone ∧
    (headOf (headsAt .synced 5 3).heads 1).map HeadEntry.run = some 3 ∧
    headOf (headsAt .synced 5 3).heads 0 = none ∧
    (headsAt .synced 5 2).heads.all (fun h => decide (h.run < 3)) = true := by
  refine ⟨rfl, rfl, nofun, fun i => ?_, by decide +kernel⟩
  fin_cases i <;> rfl

/-- R15: LOSS_OF_SYNC due of every head is done by settling, and a ready frame goes. -/
theorem test_settling :
    ((headsAt .synced 5 3).settle.heads.map HeadEntry.resync) = List.replicate 30 1 ∧
    ((seat 0 { Station.initial with todo := [.ready] } cell).settle.stations.get 0).ready = true := by
  decide +kernel

/-- Station 0 RUNNING its RAMP with record 1 OPEN, and a flywheel expiry waiting. -/
def testing : State :=
  { seat 0 (runs ramp)
      { cell with lib := cell.lib.useRecipe 0, store := storeOf record, tb := ⟨5, true, 0, 0⟩ } with
    pending := [.flywheelExpiry] }

theorem testing_steps : ∃ t, step testing = .next t := ⟨_, rfl⟩

theorem testing_slots (k : Nat) (r : Record) : testing.store.At k r → k = 0 ∧ r = record := by
  intro h
  match k, h with
  | 0, h => exact ⟨rfl, by injection h with h; injection h with h; exact h.symm⟩
  | k + 1, h =>
    have : (List.replicate 15 (none : Option Record))[k]? = some (some r) := h
    rw [List.getElem?_replicate] at this
    split at this <;> cases this

theorem test_witness_StepKeepsBounds : testing.Bounded ∧ ∃ t, step testing = .next t := by
  refine ⟨?_, testing_steps⟩
  unfold State.Bounded HeadEntry.CountersFit Fits
  decide +kernel

theorem test_witness_StepKeepsLineStop : safetyStop.LineStopHolds ∧ ∃ t, step safetyStop = .next t := by
  refine ⟨?_, ⟨_, rfl⟩⟩
  unfold State.LineStopHolds
  decide +kernel

theorem test_witness_StepKeepsDrivesHeld : testing.DrivesHeld ∧ ∃ t, step testing = .next t := by
  refine ⟨?_, testing_steps⟩
  unfold State.DrivesHeld Drive.Off
  decide +kernel

theorem testing_inStep : testing.InStep := by
  intro i
  refine ⟨?_, ?_, ?_, ?_⟩ <;> revert i <;> decide +kernel

/-- An entry beyond the first of a table that is absent there. -/
theorem entryAt_absent {α : Type} (x : Option α) (n k : Nat) :
    entryAt (x :: List.replicate n none) (k + 1) = none := by
  simp only [entryAt, List.getElem?_cons_succ, List.getElem?_replicate]
  split <;> rfl

theorem testing_recipeCounts : testing.RecipeCounts := by
  refine ⟨testing_inStep, fun r => ?_⟩
  match r with
  | 0 => decide +kernel
  | r + 1 =>
    have h : entryAt testing.lib.recipes (r + 1) = none := entryAt_absent _ 47 r
    have u : testing.usersOf (r + 1) = 0 := by
      simp [State.usersOf, testing, seat, runs, Quad.toList, Quad.set, chainHolds, cell, State.reset,
        Quad.all, Station.initial, Context.idle]
    rw [u]
    simp [Library.inUse, h]

theorem test_witness_StepKeepsRecipeCounts : testing.RecipeCounts ∧ ∃ t, step testing = .next t :=
  ⟨testing_recipeCounts, testing_steps⟩

/-- The cell with station 0 LISTENING by limit set 0 and angle table 0 and using variant 0, its counts at 1,
and a flywheel expiry waiting. -/
def listening : State :=
  { seat 0
      { listens with
        sc := { listens.sc with variantSlot := some 0, variantUse := true } }
      { cell with lib := ((cell.lib.useRecipe 0).useVariant 0).useListen 0 0, tb := ⟨5, true, 0, 0⟩ } with
    pending := [.flywheelExpiry] }

theorem test_witness_StepKeepsRecipeCounts_uses :
    listening.UseCounts ∧ (∃ t, step listening = .next t) ∧
    listening.lib.inUse (.variant 0) = 1 ∧ listening.lib.inUse (.limits 0) = 1 ∧
    listening.lib.inUse (.angle 0) = 1 := by
  refine ⟨⟨?_, by decide +kernel, fun k => ?_, fun k => ?_, fun k => ?_⟩, ⟨_, rfl⟩, by decide +kernel⟩
  · intro i
    match i with
    | 0 => exact ⟨fun _ => rfl, fun _ => ⟨_, rfl, rfl⟩, fun h => absurd rfl h, by decide +kernel⟩
    | 1 => exact ⟨nofun, nofun, fun _ _ => rfl, by decide +kernel⟩
    | 2 => exact ⟨nofun, nofun, fun _ _ => rfl, by decide +kernel⟩
    | 3 => exact ⟨nofun, nofun, fun _ _ => rfl, by decide +kernel⟩
  · match k with
    | 0 => decide +kernel
    | k + 1 =>
      have h : entryAt listening.lib.variants (k + 1) = none := entryAt_absent _ 63 k
      have u : listening.variantUsers (k + 1) = 0 := by
        simp [State.variantUsers, listening, seat, listens, runs, Quad.toList, Quad.set, cell, State.reset,
          Quad.all, Station.initial, Context.idle]
      rw [u]
      simp [Library.inUse, h]
  · match k with
    | 0 => decide +kernel
    | k + 1 =>
      have h : entryAt listening.lib.limits (k + 1) = none := entryAt_absent _ 31 k
      have u : listening.limitUsers (k + 1) = 0 := by
        simp [State.limitUsers, listening, seat, listens, runs, point, Quad.toList, Quad.set, cell,
          State.reset, Quad.all, Station.initial, Context.idle]
      rw [u]
      simp [Library.inUse, h]
  · match k with
    | 0 => decide +kernel
    | k + 1 =>
      have h : entryAt listening.lib.angles (k + 1) = none := by
        match k with
        | 0 => rfl
        | 1 => rfl
        | 2 => rfl
        | _ + 3 => rfl
      have u : listening.angleUsers (k + 1) = 0 := by
        simp [State.angleUsers, allStations, listening, seat, cell, State.reset, Quad.all, Quad.get,
          Setup.initial]
      rw [u]
      simp [Library.inUse, h]

theorem testing_useCounts : testing.UseCounts := by
  refine ⟨testing_inStep, by decide +kernel, fun k => ?_, fun k => ?_, fun k => ?_⟩
  · match k with
    | 0 => decide +kernel
    | k + 1 =>
      have h : entryAt testing.lib.variants (k + 1) = none := entryAt_absent _ 63 k
      have u : testing.variantUsers (k + 1) = 0 := by
        simp [State.variantUsers, testing, seat, runs, Quad.toList, Quad.set, cell, State.reset,
          Quad.all, Station.initial, Context.idle]
      rw [u]
      simp [Library.inUse, h]
  · match k with
    | 0 => decide +kernel
    | k + 1 =>
      have h : entryAt testing.lib.limits (k + 1) = none := entryAt_absent _ 31 k
      have u : testing.limitUsers (k + 1) = 0 := by
        simp [State.limitUsers, testing, seat, runs, Quad.toList, Quad.set, cell, State.reset, Quad.all,
          Station.initial]
      rw [u]
      simp [Library.inUse, h]
  · match k with
    | 0 => decide +kernel
    | k + 1 =>
      have h : entryAt testing.lib.angles (k + 1) = none := by
        match k with
        | 0 => rfl
        | 1 => rfl
        | 2 => rfl
        | _ + 3 => rfl
      have u : testing.angleUsers (k + 1) = 0 := by
        simp [State.angleUsers, allStations, testing, seat, cell, State.reset, Quad.all, Quad.get,
          Setup.initial]
      rw [u]
      simp [Library.inUse, h]

theorem testing_records : testing.RecordsAgree := by
  refine ⟨rfl, by decide +kernel, ?_, ?_, ?_, ?_, by decide +kernel, ?_⟩
  · intro k r h
    obtain ⟨-, rfl⟩ := testing_slots k r h
    decide
  · intro j k q r hj hk _
    rw [(testing_slots j q hj).1, (testing_slots k r hk).1]
  · intro i h
    match i with
    | 0 => exact ⟨0, record, rfl, rfl, rfl, rfl⟩
    | 1 => exact absurd rfl h
    | 2 => exact absurd rfl h
    | 3 => exact absurd rfl h
  · intro k r h _
    obtain ⟨-, rfl⟩ := testing_slots k r h
    exact ⟨by decide, rfl⟩
  · intro id
    refine ⟨fun h => absurd h (by exact List.not_mem_nil), ?_⟩
    rintro ⟨k, r, h, hc, -⟩
    obtain ⟨-, rfl⟩ := testing_slots k r h
    exact absurd hc (by decide)

theorem test_witness_StepKeepsRecordsInAgreement :
    testing.RecordsAgree ∧ ∃ t, step testing = .next t := ⟨testing_records, testing_steps⟩

/-- A station that is RUNNING in a cell whose records agree meets a forced write of its recipe. -/
theorem test_witness_ForcedWriteStopsEveryUser_records :
    testing.InStep ∧ testing.RecordsAgree ∧ testing.RecipeCounts ∧ testing.UseCounts ∧
    (testing.bench 0).uses (.recipe 0) = true ∧ (testing.stations.get 0).sc.state.driving = true :=
  ⟨testing_inStep, testing_records, testing_recipeCounts, testing_useCounts, by decide +kernel, rfl⟩

/-- CELL_RESET asked while station 0 is RUNNING with record 1 OPEN. -/
theorem test_witness_CellResetClearsTheCell_counts :
    (ask 21 [] testing).RecipeCounts ∧ (ask 21 [] testing).UseCounts ∧
    (ask 21 [] testing).RecordsAgree ∧ (ask 21 [] testing).Asks 21 (req 21 []) :=
  ⟨testing_recipeCounts, testing_useCounts, testing_records, asks 21 (by decide) _ _⟩

/-- The flags of the summary of the reply formed first. -/
def answeredFlags (s : State) : Option Flags :=
  match s.queue.head?.map Request.state with
  | some (.answered a _) => some a.summary.flags
  | _ => none

/-- R34: REPORT_READY in the reply where a record closed, and where none did. -/
theorem test_witness_CellResetClearsTheCell_flags :
    ((ask 21 [] testing).settle.stations.get 0).sc.state ≠ .idle ∧
    (nextOf (exec .cellReset (ask 21 [] testing))).bind answeredFlags =
      some { Flags.clear with reportReady := true } ∧
    (nextOf (exec .cellReset (ask 21 [] cell))).bind answeredFlags = some Flags.clear := by decide +kernel

end Sys2Proof.Tests
end

section
/-! PROOF. R10: the node address is read from the straps at power-on reset and no other command moves it.
What does not reach the ring port leaves it whole; what does, keeps the address in it. -/

namespace Sys2Proof.Machine

/-! ### The address that straps give -/

theorem addressOf_toNat (straps : BitVec 5) :
    (addressOf straps).toNat =
      if straps.toNat = 0 ∨ straps.toNat = 31 then 30 else straps.toNat := by
  have clamped : (straps = 0 ∨ straps = 31) ↔ (straps.toNat = 0 ∨ straps.toNat = 31) := by
    simp [← BitVec.toNat_inj]
  unfold addressOf
  simp only [clamped]
  split
  · rfl
  · exact BitVec.toNat_setWidth_of_le (by decide)

/-! ### The stations' work and the ring port -/

@[simp] theorem State.onStation_rp (s : State) (i : StNo) (f : Bench → Bench) :
    (s.onStation i f).rp = s.rp := rfl

@[simp] theorem State.give_rp (s : State) (i : StNo) (ts : List Todo) : (s.give i ts).rp = s.rp := rfl

@[simp] theorem State.stationCycle_rp (s : State) (i : StNo) : (s.stationCycle i).rp = s.rp := rfl

@[simp] theorem State.giveVibration_rp (s : State) (node : Nat) (ts : List Todo) :
    (s.giveVibration node ts).rp = s.rp := by
  unfold State.giveVibration
  refine List.foldlRecOn (motive := fun t : State => t.rp = s.rp) allStations _ rfl ?_
  intro t ht i _
  split
  · exact ht
  · exact ht

@[simp] theorem State.loseSync_rp (s : State) (node : Nat) : (s.loseSync node).rp = s.rp := by
  unfold State.loseSync
  split <;> simp

@[simp] theorem State.track_rp (f : Frame) (h : HeadEntry) (s : State) : (s.track f h).rp = s.rp := by
  unfold State.track
  split
  · simp
  · split
    · simp
    · split <;> simp

@[simp] theorem State.sampleIntake_rp (f : Frame) (s : State) : (s.sampleIntake f).rp = s.rp := by
  unfold State.sampleIntake
  split
  · split <;> simp
  · rfl

@[simp] theorem State.offer_rp (f : Frame) (s : State) : (s.offer f).rp = s.rp := by
  unfold State.offer
  split <;> rfl

/-! ### The ring port's own operations keep its address -/

@[simp] theorem State.sendOwn_addr (s : State) : s.sendOwn.rp.addr = s.rp.addr := by
  unfold State.sendOwn
  repeat' split
  all_goals rfl

@[simp] theorem State.pump_addr (s : State) : s.pump.rp.addr = s.rp.addr := by
  unfold State.pump
  split
  · rfl
  · split
    · exact s.sendOwn_addr
    · split <;> rfl

@[simp] theorem State.forward_addr (f : Frame) (s : State) : (s.forward f).rp.addr = s.rp.addr := by
  unfold State.forward
  split
  · rfl
  · split <;> rfl

@[simp] theorem State.takeReplies_addr (w : Window) (s : State) :
    (s.takeReplies w).rp.addr = s.rp.addr := rfl

@[simp] theorem State.openWindow_addr (s : State) : s.openWindow.rp.addr = s.rp.addr := by
  unfold State.openWindow
  dsimp only
  split <;> rfl

@[simp] theorem State.afterSending_addr (what : SentKind) (s : State) :
    (s.afterSending what).rp.addr = s.rp.addr := by
  cases what with
  | forwarded => rfl
  | setpoint =>
    simp only [State.afterSending]
    repeat' split
    all_goals rfl
  | reply =>
    simp only [State.afterSending]
    repeat' split
    all_goals rfl

@[simp] theorem State.endTransmission_addr (s : State) : s.endTransmission.rp.addr = s.rp.addr := by
  unfold State.endTransmission
  split <;> simp

/-! ### The work that has fallen due -/

@[simp] theorem State.resumeWith_addr (i : StNo) (rest : List Todo) (b : Bench) (s : State) :
    (s.resumeWith i rest b).rp.addr = s.rp.addr := by
  simp [State.resumeWith]

@[simp] theorem State.fireAt_addr (i : StNo) (e : StEvent) (rest : List Todo) (s : State) :
    (s.fireAt i e rest).rp.addr = s.rp.addr := by
  simp [State.fireAt]

@[simp] theorem State.fireDue_addr (i : StNo) (kind : StEvent → Bool) (s : State) :
    (s.fireDue i kind).rp.addr = s.rp.addr := by
  obtain ⟨e, rest, -, -, h⟩ | h := s.fireDue_cases i kind <;> simp [h]

@[simp] theorem State.settleAt_addr (i : StNo) (n : Nat) (s : State) :
    (s.settleAt i n).rp.addr = s.rp.addr :=
  State.settleAt_keeps (P := fun t => t.rp.addr = s.rp.addr)
    (fun t ht => (t.resumeWith_addr i _ _).trans ht)
    (fun t e rest _ ht => (t.fireAt_addr i e rest).trans ht) n s rfl

@[simp] theorem State.settleStation_addr (i : StNo) (s : State) :
    (s.settleStation i).rp.addr = s.rp.addr := by
  simp [State.settleStation]

@[simp] theorem State.settleStations_addr (s : State) : s.settleStations.rp.addr = s.rp.addr := by
  simp [State.settleStations]

@[simp] theorem State.loseHead_addr (node : Nat) (s : State) :
    (s.loseHead node).rp.addr = s.rp.addr := by
  simp [State.loseHead]

@[simp] theorem State.settleHead_addr (s : State) (node : Nat) :
    (s.settleHead node).rp.addr = s.rp.addr := by
  obtain ⟨_, -, -, h⟩ | ⟨-, h⟩ := s.settleHead_cases node <;> simp [h]

theorem State.settleHeads_addr (ns : List Nat) (s : State) :
    (ns.foldl State.settleHead s).rp.addr = s.rp.addr := by
  induction ns generalizing s with
  | nil => rfl
  | cons n ns ih => exact (ih _).trans (s.settleHead_addr n)

@[simp] theorem State.settle_addr (s : State) : s.settle.rp.addr = s.rp.addr := by
  simp [State.settle, State.settleHeads_addr]

/-! ### Ring cycle events and received frames -/

@[simp] theorem State.ringCycle_addr (s : State) : s.ringCycle.rp.addr = s.rp.addr := by
  simp [State.ringCycle]

@[simp] theorem State.cycleFrame_addr (f : Frame) (s : State) :
    (s.cycleFrame f).rp.addr = s.rp.addr := by
  unfold State.cycleFrame
  split <;> simp

@[simp] theorem State.receive_addr (f : Frame) (s : State) : (s.receive f).rp.addr = s.rp.addr := by
  unfold State.receive
  split <;> simp

/-! ### Requests -/

@[simp] theorem refuse_state (c : ReplyCode) (s : State) : (refuse c s).state = s := rfl
@[simp] theorem answer_state (c : ReplyCode) (n : Nat) (s : State) : (answer c n s).state = s := rfl
@[simp] theorem done_state (s : State) : (done s).state = s := rfl
@[simp] theorem report_state (t : PayloadTag) (p : List Byte) (s : State) :
    (report t p s).state = s := rfl

/-- A request whose owning rule leaves the ring port. -/
def KeepsPort (op : Request → State → Answer) : Prop := ∀ r s, (op r s).state.rp = s.rp

theorem onNamed_rp {r : Request} {s : State} {f : StNo → Answer} (h : ∀ i, (f i).state.rp = s.rp) :
    (onNamed r s f).state.rp = s.rp := by
  unfold onNamed
  split
  · exact h _
  · rfl

@[simp] theorem forceStation_rp (e : Entry) (i : StNo) (p : State × Nat) :
    (forceStation e i p).1.rp = p.1.rp := by
  unfold forceStation
  split <;> rfl

@[simp] theorem forceUsers_rp (e : Entry) (s : State) : (forceUsers e s).1.rp = s.rp := by
  simp [forceUsers]

@[simp] theorem State.write_rp (e : Entry) (force : Bool) (c : ReplyCode) (w : Library → Library)
    (s : State) : (s.write e force c w).state.rp = s.rp := by
  unfold State.write
  split
  · rfl
  · split <;> simp

theorem opLoadVariant_keepsPort : KeepsPort opLoadVariant := by
  intro r s
  unfold opLoadVariant
  repeat' split
  all_goals simp

theorem opLoadRecipe_keepsPort : KeepsPort opLoadRecipe := by
  intro r s
  unfold opLoadRecipe
  repeat' split
  all_goals simp

theorem opLoadLimits_keepsPort : KeepsPort opLoadLimits := by
  intro r s
  unfold opLoadLimits
  repeat' split
  all_goals simp

@[simp] theorem loadFirst_rp (r : Request) (s : State) : (loadFirst r s).state.rp = s.rp := by
  simp [loadFirst]

@[simp] theorem loadNext_rp (r : Request) (s : State) : (loadNext r s).state.rp = s.rp := by
  unfold loadNext
  repeat' split
  all_goals rfl

theorem opLoadAngle_keepsPort : KeepsPort opLoadAngle := by
  intro r s
  unfold opLoadAngle
  repeat' split
  all_goals simp

theorem opDeleteEntry_keepsPort : KeepsPort opDeleteEntry := by
  intro r s
  unfold opDeleteEntry
  split <;> simp

theorem opReadEntry_keepsPort : KeepsPort opReadEntry := by
  intro r s
  unfold opReadEntry
  repeat' split
  all_goals rfl

@[simp] theorem State.writeSetup_rp (i : StNo) (mask : Nat) (body : List Byte) (s : State) :
    (s.writeSetup i mask body).rp = s.rp := rfl

theorem opSetStation_cases (r : Request) (s : State) :
    (∃ c, opSetStation r s = refuse c s) ∨
      ∃ i c, opSetStation r s = answer c 0 (s.writeSetup i (u32At r.body 1) r.body) := by
  unfold opSetStation onNamed
  split
  · dsimp only
    split
    · exact .inl ⟨_, rfl⟩
    · split
      · exact .inl ⟨_, rfl⟩
      · split
        · exact .inl ⟨_, rfl⟩
        · exact .inr ⟨_, _, rfl⟩
  · exact .inl ⟨_, rfl⟩

theorem opSetStation_keepsPort : KeepsPort opSetStation := by
  intro r s
  obtain ⟨c, h⟩ | ⟨i, c, h⟩ := opSetStation_cases r s <;> simp [h]

theorem opReadStation_keepsPort : KeepsPort opReadStation :=
  fun _ _ => onNamed_rp fun _ => rfl

theorem opSetCell_keepsPort : KeepsPort opSetCell := by
  intro r s
  unfold opSetCell
  repeat' split
  all_goals rfl

theorem opAdmit_keepsPort : KeepsPort opAdmit := by
  intro r s
  unfold opAdmit
  split
  · rfl
  · refine onNamed_rp fun i => ?_
    repeat' split
    all_goals rfl

theorem opSetRunMode_keepsPort : KeepsPort opSetRunMode := by
  refine fun r s => onNamed_rp fun i => ?_
  repeat' split
  all_goals rfl

theorem opResume_keepsPort : KeepsPort opResume := by
  refine fun r s => onNamed_rp fun i => ?_
  split <;> rfl

theorem opAbort_keepsPort : KeepsPort opAbort := by
  refine fun r s => onNamed_rp fun i => ?_
  split <;> rfl

theorem opReadReport_keepsPort : KeepsPort opReadReport := by
  intro r s
  unfold opReadReport
  repeat' split
  all_goals rfl

theorem opReleaseReport_keepsPort : KeepsPort opReleaseReport := by
  intro r s
  unfold opReleaseReport
  split <;> rfl

theorem opClearReject_keepsPort : KeepsPort opClearReject :=
  fun _ _ => onNamed_rp fun _ => rfl

theorem opClearLineStop_keepsPort : KeepsPort opClearLineStop := by
  intro r s
  unfold opClearLineStop
  split <;> rfl

@[simp] theorem State.endTests_rp (s : State) : s.endTests.rp = s.rp := by
  simp only [State.endTests, State.onStation_rp]

theorem opCellReset_keepsPort : KeepsPort opCellReset := by
  intro r s
  simp [opCellReset, State.cellReset]

/-- READ_COUNTERS may zero the ring port's counters (R19), never its address. -/
theorem opReadCounters_addr (r : Request) (s : State) :
    (opReadCounters r s).state.rp.addr = s.rp.addr := by
  unfold opReadCounters
  split
  · simp only [report_state]
    split <;> rfl
  · rfl

@[simp] theorem State.reply_rp (r : Request) (a : Answer) : (State.reply r a).rp = a.state.rp := rfl

theorem checked_addr {op : Request → State → Answer}
    (hop : ∀ r s, (op r s).state.rp.addr = s.rp.addr) (r : Request) (s : State) :
    (checked op r s).state.rp.addr = s.rp.addr := by
  unfold checked
  split
  · rfl
  · exact hop r s

/-- The execution of a request keeps the address when its owning rule does. -/
theorem State.request_addr {op : Request → State → Answer}
    (hop : ∀ r s, (op r s).state.rp.addr = s.rp.addr) (kind : Nat → Bool) (s : State) :
    (s.request kind op).rp.addr = s.rp.addr := by
  obtain ⟨r, -, -, h⟩ | h := s.request_cases kind op
  · calc (s.request kind op).rp.addr
        = (State.reply r (checked op r s.settle)).rp.addr := by rw [h]
      _ = (checked op r s.settle).state.rp.addr := by rw [State.reply_rp]
      _ = s.settle.rp.addr := checked_addr hop r s.settle
      _ = s.rp.addr := s.settle_addr
  · rw [h]

theorem KeepsPort.request_addr {op : Request → State → Answer} (hop : KeepsPort op)
    (kind : Nat → Bool) (s : State) : (s.request kind op).rp.addr = s.rp.addr :=
  State.request_addr (fun r s => congrArg RingPort.addr (hop r s)) kind s

/-! ### Every command but a power-on reset -/

/-- A next state that an outcome answers has the address of `s`. -/
def KeepsAddr (s : State) (o : Host.Outcome State Fault Refusal) : Prop :=
  ∀ t, o = .next t → t.rp.addr = s.rp.addr

theorem keepsAddr_next {s t : State} (h : t.rp.addr = s.rp.addr) : KeepsAddr s (.next t) := by
  rintro _ ⟨⟩
  exact h

theorem keepsAddr_fault (s : State) (e : Fault) : KeepsAddr s (.fault e) := by
  rintro _ ⟨⟩

theorem execFlywheelExpiry_keepsAddr (s : State) : KeepsAddr s (execFlywheelExpiry s) := by
  refine keepsAddr_next ?_
  split <;> simp

theorem execLossOfSync_keepsAddr (node : Nat) (s : State) : KeepsAddr s (execLossOfSync node s) := by
  unfold execLossOfSync
  split
  · split
    · refine keepsAddr_next ?_
      split <;> simp
    · exact keepsAddr_next rfl
  · exact keepsAddr_fault s _

theorem exec_keepsAddr (c : Instr) (s : State) (hc : ∀ straps, c ≠ .powerOnReset straps) :
    KeepsAddr s (exec c s) := by
  cases c with
  | powerOnReset straps => exact absurd rfl (hc straps)
  | frameReceived f => exact keepsAddr_next (s.receive_addr f)
  | flywheelExpiry => exact execFlywheelExpiry_keepsAddr s
  | lossOfSync node => exact execLossOfSync_keepsAddr node s
  | transmissionEnd => exact keepsAddr_next s.endTransmission_addr
  | feedbackLost i | speedDeviation i | torqueLimit i | rampDone i | speedNotReached i | dwellDone i
  | leakWaitTimeout i | runaway i | stopComplete i | stopTimeout i | pulseEnd i | recoveryEnd i
  | windowClose i | slow i | listenCutOff i | listenTimeLimit i | fill i | supplyWaitLimit i | settle i
  | grossLeak i | measure i | startBlock i | endBlock i | disturbed i | ventDone i | ventTimeout i =>
    exact keepsAddr_next (s.fireDue_addr i _)
  | badKind | status | readCell =>
    exact keepsAddr_next (State.request_addr (fun _ _ => rfl) _ s)
  | readCounters => exact keepsAddr_next (State.request_addr opReadCounters_addr _ s)
  | loadVariant => exact keepsAddr_next (opLoadVariant_keepsPort.request_addr _ s)
  | loadRecipe => exact keepsAddr_next (opLoadRecipe_keepsPort.request_addr _ s)
  | loadLimits => exact keepsAddr_next (opLoadLimits_keepsPort.request_addr _ s)
  | loadAngle => exact keepsAddr_next (opLoadAngle_keepsPort.request_addr _ s)
  | deleteEntry => exact keepsAddr_next (opDeleteEntry_keepsPort.request_addr _ s)
  | readEntry => exact keepsAddr_next (opReadEntry_keepsPort.request_addr _ s)
  | setStation => exact keepsAddr_next (opSetStation_keepsPort.request_addr _ s)
  | readStation => exact keepsAddr_next (opReadStation_keepsPort.request_addr _ s)
  | setCell => exact keepsAddr_next (opSetCell_keepsPort.request_addr _ s)
  | admitAxle => exact keepsAddr_next (opAdmit_keepsPort.request_addr _ s)
  | setRunMode => exact keepsAddr_next (opSetRunMode_keepsPort.request_addr _ s)
  | resume => exact keepsAddr_next (opResume_keepsPort.request_addr _ s)
  | abort => exact keepsAddr_next (opAbort_keepsPort.request_addr _ s)
  | readReport => exact keepsAddr_next (opReadReport_keepsPort.request_addr _ s)
  | releaseReport => exact keepsAddr_next (opReleaseReport_keepsPort.request_addr _ s)
  | clearReject => exact keepsAddr_next (opClearReject_keepsPort.request_addr _ s)
  | clearLineStop => exact keepsAddr_next (opClearLineStop_keepsPort.request_addr _ s)
  | cellReset => exact keepsAddr_next (opCellReset_keepsPort.request_addr _ s)

/-- Settles O2: the power-on reset by the address that straps give, the rest by the case split over the
commands. -/
theorem addressIsTheStraps : Obligations.AddressIsTheStraps :=
  ⟨fun straps _ => ⟨_, rfl, addressOf_toNat straps⟩,
    fun c s t hc h => exec_keepsAddr c s hc t h⟩

end Sys2Proof.Machine
end

section
/-! The root of an order's magnitude (7.2, R120): the bit-by-bit search finds `Nat.sqrt`. -/

namespace Sys2Proof.Machine

/-- The search keeps the root in the interval `[g, g + 2 ^ n)` and halves it at each bit. -/
theorem rootBits_eq_sqrt {x n g : Nat} (low : g ≤ x.sqrt) (high : x.sqrt < g + 2 ^ n) :
    rootBits x n g = x.sqrt := by
  induction n generalizing g with
  | zero => simp only [rootBits]; omega
  | succ n ih =>
    simp only [rootBits, ← Nat.le_sqrt]
    split
    next upper => exact ih upper (by omega)
    next lower => exact ih low (by omega)

theorem rootFloor_eq_sqrt {x : Nat} (hx : x < 2 ^ 60) : rootFloor x = x.sqrt :=
  rootBits_eq_sqrt (Nat.zero_le _) (Nat.sqrt_lt.2 (by omega))

/-- Settles O51: the search is exact below 2^60, and `Nat.sqrt` has the bounds of R120. -/
theorem magnitudeIsTheExactRoot : Obligations.MagnitudeIsTheExactRoot := by
  intro a hc hs x
  have hx : x < 2 ^ 59 := by omega
  have root : a.magnitude = x.sqrt := rootFloor_eq_sqrt (by omega)
  rw [root]
  exact ⟨hx, Nat.sqrt_le x, Nat.lt_succ_sqrt x, Nat.sqrt_lt.2 (by omega)⟩

end Sys2Proof.Machine
end

section
/-! The verdict of a record (9.4, R162): the five rows of the table, tried in order. -/

namespace Sys2Proof.Machine

/-- Row 2 of R162. -/
def abortsTest (why : Option StopReason) : Prop :=
  why = some .operator ∨ why = some .tableReplaced ∨ why = some .cellReset

theorem abortsTest_iff (why : Option StopReason) : abortsTest why ↔
    why = some .operator ∨ why = some .tableReplaced ∨ why = some .cellReset := Iff.rfl

theorem not_abortsTest_iff (why : Option StopReason) : ¬ abortsTest why ↔
    why ≠ some .operator ∧ why ≠ some .tableReplaced ∧ why ≠ some .cellReset := by
  simp only [abortsTest_iff, not_or, ne_eq]

theorem Basis.eq_clear_iff (m : Basis) : m = ⟨false, false, false, false, false⟩ ↔
    m.fault = false ∧ m.safety = false ∧ m.fail = false ∧ m.gap = false ∧ m.process = false := by
  cases m
  simp only [Basis.mk.injEq]

/-- R162 row by row: the verdict is that of a row which applies, and no row above it does. -/
theorem verdictOf_firstRow (m : Basis) (why : Option StopReason) :
    (verdictOf m why = .faulted ∧ (m.fault = true ∨ m.safety = true)) ∨
    (verdictOf m why = .aborted ∧ m.fault = false ∧ m.safety = false ∧ abortsTest why) ∨
    (verdictOf m why = .fail ∧ m.fault = false ∧ m.safety = false ∧ ¬ abortsTest why ∧
      m.fail = true) ∨
    (verdictOf m why = .notJudged ∧ m.fault = false ∧ m.safety = false ∧ ¬ abortsTest why ∧
      m.fail = false ∧ (m.gap = true ∨ m.process = true)) ∨
    (verdictOf m why = .pass ∧ m.fault = false ∧ m.safety = false ∧ ¬ abortsTest why ∧
      m.fail = false ∧ m.gap = false ∧ m.process = false) := by
  unfold verdictOf abortsTest
  split
  next broken => simpa using broken
  next sound =>
    obtain ⟨noFault, noSafety⟩ : m.fault = false ∧ m.safety = false := by simpa using sound
    split
    next aborts => simp [noFault, noSafety, aborts]
    next runs =>
      split
      next fails => simp [noFault, noSafety, runs, fails]
      next meets =>
        split
        next unjudged => simpa [noFault, noSafety, runs, meets] using unjudged
        next judged => simpa [noFault, noSafety, runs, meets] using judged

/-- Settles O39: in each row of the table the verdict is that of the row alone, and the conditions of the
other rows are false. -/
theorem verdictPrecedence : Obligations.VerdictPrecedence := by
  refine ⟨fun _ _ _ => rfl, fun m why => ?_⟩
  rw [← not_abortsTest_iff, ← abortsTest_iff, Basis.eq_clear_iff]
  obtain ⟨row, broken⟩ | ⟨row, noFault, noSafety, aborts⟩ | ⟨row, noFault, noSafety, runs, fails⟩ |
    ⟨row, noFault, noSafety, runs, meets, unjudged⟩ |
    ⟨row, noFault, noSafety, runs, meets, noGap, noProcess⟩ := verdictOf_firstRow m why
  case inl => rcases broken with marked | marked <;> simp [row, marked]
  case inr.inl => simp [row, noFault, noSafety, aborts]
  case inr.inr.inl => simp [row, noFault, noSafety, runs, fails]
  case inr.inr.inr.inl => rcases unjudged with marked | marked <;>
      simp [row, noFault, noSafety, runs, meets, marked]
  case inr.inr.inr.inr => simp [row, noFault, noSafety, runs, meets, noGap, noProcess]

end Sys2Proof.Machine
end

section
/-! SUPPORT. What a station's blocks can do to what the invariants speak of, said once: the moves of a bench.
A move either is quiet (it changes timers, figures, windows, the leak activity, entries of the station's OPEN
record, but nothing an invariant reads) or is one of the steps of Chapter 4 that move the state, the call chain
or the uses of a station. -/

namespace Sys2Proof.Machine

/-! ### Entries of a record -/

/-- What is written into a record leaves its id, its station and whether it is closed. -/
def KeepsIdentity (f : Record → Record) : Prop :=
  ∀ r, (f r).id = r.id ∧ (f r).station = r.station ∧ (f r).closed = r.closed

theorem keepsIdentity_id : KeepsIdentity id := fun _ => ⟨rfl, rfl, rfl⟩

theorem KeepsIdentity.comp {f g : Record → Record} (hg : KeepsIdentity g) (hf : KeepsIdentity f) :
    KeepsIdentity (g ∘ f) := fun r =>
  ⟨(hg (f r)).1.trans (hf r).1, (hg (f r)).2.1.trans (hf r).2.1, (hg (f r)).2.2.trans (hf r).2.2⟩

theorem addSegment_keepsIdentity (x : SegResult) : KeepsIdentity (Record.addSegment x) := by
  intro r
  unfold Record.addSegment
  split <;> exact ⟨rfl, rfl, rfl⟩

theorem addOrder_keepsIdentity (x : OrderResult) : KeepsIdentity (Record.addOrder x) := by
  intro r
  unfold Record.addOrder
  split <;> exact ⟨rfl, rfl, rfl⟩

theorem addDefect_keepsIdentity (c : DefectCode) (n : Nat) : KeepsIdentity (Record.addDefect c n) := by
  intro r
  unfold Record.addDefect
  split
  · exact ⟨rfl, rfl, rfl⟩
  · split <;> exact ⟨rfl, rfl, rfl⟩

theorem placeLeak_keepsIdentity (x : LeakResult) : KeepsIdentity (Record.placeLeak x) :=
  fun _ => ⟨rfl, rfl, rfl⟩

theorem openSlot_comp {f g : Record → Record} (id : Nat) (hf : KeepsIdentity f) (o : Option Record) :
    openSlot id g (openSlot id f o) = openSlot id (g ∘ f) o := by
  cases o with
  | none => rfl
  | some r =>
    obtain ⟨hid, -, hclosed⟩ := hf r
    by_cases h : r.id = id ∧ r.closed = false
    · simp [openSlot, h, hid, hclosed]
    · simp only [openSlot, if_neg h]

/-- Two entries in a row are one entry. -/
theorem Store.onOpen_onOpen (t : Store) (id : Nat) {f g : Record → Record} (hf : KeepsIdentity f) :
    (t.onOpen id f).onOpen id g = t.onOpen id (g ∘ f) := by
  simp [Store.onOpen, mapOpen_eq, openSlot_comp id hf]

theorem openSlot_id (id : Nat) (o : Option Record) : openSlot id (fun r => r) o = o := by
  cases o <;> simp [openSlot]

theorem Store.onOpen_self (t : Store) (id : Nat) : t.onOpen id (fun r => r) = t := by
  have h : openSlot id (fun r => r) = fun o => o := funext (openSlot_id id)
  simp [Store.onOpen, mapOpen_eq, h]

/-- `t'` is `t` after entries into the OPEN record of an id. -/
def Store.Written (id : Nat) (t t' : Store) : Prop := ∃ f, KeepsIdentity f ∧ t' = t.onOpen id f

theorem Store.Written.refl (id : Nat) (t : Store) : Store.Written id t t :=
  ⟨_, keepsIdentity_id, (t.onOpen_self id).symm⟩

theorem Store.Written.trans {id : Nat} {t u v : Store} (h : Store.Written id t u)
    (h' : Store.Written id u v) : Store.Written id t v := by
  obtain ⟨f, hf, rfl⟩ := h
  obtain ⟨g, hg, rfl⟩ := h'
  exact ⟨g ∘ f, hg.comp hf, t.onOpen_onOpen id hf⟩

theorem Store.Written.entry {id : Nat} {t u : Store} (h : Store.Written id t u) {f : Record → Record}
    (hf : KeepsIdentity f) : Store.Written id t (u.onOpen id f) := h.trans ⟨f, hf, rfl⟩

/-! ### What the invariants read of a station -/

/-- The part of a test context that the invariants read. -/
structure Grip where
  state : StState
  recordId : Nat
  variantSlot : Option Nat
  variantUse : Bool
  chain : List ChainEntry
  safety : Bool
  stopKind : Option StopKind
  segment : Option Segment

def Context.grip (x : Context) : Grip :=
  ⟨x.state, x.recordId, x.variantSlot, x.variantUse, x.chain, x.safety, x.stopKind, x.segment⟩

theorem Context.grip_eq {x y : Context} (h : x.grip = y.grip) :
    x.state = y.state ∧ x.recordId = y.recordId ∧ x.variantSlot = y.variantSlot ∧
      x.variantUse = y.variantUse ∧ x.chain = y.chain ∧ x.safety = y.safety ∧
      x.stopKind = y.stopKind ∧ x.segment = y.segment := by
  simpa [Context.grip] using h

/-- Trigger counts within their places (R168, R170). -/
def Output.Fits (o : Output) : Prop := Machine.Fits o.lost ∧ o.pending ≤ 4

/-- R83, R87, R88 of one station. -/
def Bench.DriveHeld (b : Bench) : Prop :=
  (b.st.sc.state = .idle → b.st.dc.Off) ∧
  (b.st.sc.state = .stopping → b.st.sc.stopKind = some .coast → b.st.dc.Off) ∧
  b.st.dc.setpoint.natAbs ≤ b.vmax

/-- The number of the limit set a station listens by. -/
def Station.setInUse (t : Station) : Option Nat := t.point.map Point.limitSet

/-- `c` differs from `b` in nothing that an invariant reads, but for entries of the station's OPEN record. -/
structure Bench.Quiet (b c : Bench) : Prop where
  around : c.around = b.around
  lib : c.lib = b.lib
  lineStop : c.lineStop = b.lineStop
  store : Store.Written b.st.sc.recordId b.store c.store
  grip : c.st.sc.grip = b.st.sc.grip
  drive : b.DriveHeld → c.DriveHeld
  setInUse : c.st.setInUse = b.st.setInUse
  outputs : b.st.ou.Fits → c.st.ou.Fits
  headResync : c.flags.headResync = b.flags.headResync

theorem Bench.DriveHeld.congr {b c : Bench} (around : c.around = b.around)
    (grip : c.st.sc.grip = b.st.sc.grip) (enable : c.st.dc.enable = b.st.dc.enable)
    (setpoint : c.st.dc.setpoint = b.st.dc.setpoint) (limit : c.st.dc.torqueLimit = b.st.dc.torqueLimit)
    (h : b.DriveHeld) : c.DriveHeld := by
  obtain ⟨-, -, -, -, setup, cell⟩ := Bench.around_eq around
  obtain ⟨state, -, -, -, -, -, kind, -⟩ := Context.grip_eq grip
  simpa only [Bench.DriveHeld, Bench.vmax, Drive.Off, setup, cell, state, kind, enable, setpoint, limit]
    using h

namespace Bench.Quiet

theorem refl (b : Bench) : b.Quiet b :=
  ⟨rfl, rfl, rfl, .refl _ _, rfl, id, rfl, id, rfl⟩

theorem trans {b c d : Bench} (h : b.Quiet c) (k : c.Quiet d) : b.Quiet d where
  around := k.around.trans h.around
  lib := k.lib.trans h.lib
  lineStop := k.lineStop.trans h.lineStop
  store := by
    have id := (Context.grip_eq h.grip).2.1
    exact h.store.trans (id ▸ k.store)
  grip := k.grip.trans h.grip
  drive := k.drive ∘ h.drive
  setInUse := k.setInUse.trans h.setInUse
  outputs := k.outputs ∘ h.outputs
  headResync := k.headResync.trans h.headResync

variable (b : Bench)

theorem setSc {x : Context} (h : x.grip = b.st.sc.grip) : b.Quiet (b.setSc x) :=
  ⟨rfl, rfl, rfl, .refl _ _, h, Bench.DriveHeld.congr rfl h rfl rfl rfl, rfl, id, rfl⟩

theorem setDc {x : Drive} (h : b.DriveHeld → (b.setDc x).DriveHeld) : b.Quiet (b.setDc x) :=
  ⟨rfl, rfl, rfl, .refl _ _, rfl, h, rfl, id, rfl⟩

/-- A change of the drive that keeps enable, setpoint and torque limit. -/
theorem setDc_same {x : Drive} (enable : x.enable = b.st.dc.enable)
    (setpoint : x.setpoint = b.st.dc.setpoint) (limit : x.torqueLimit = b.st.dc.torqueLimit) :
    b.Quiet (b.setDc x) :=
  setDc b (Bench.DriveHeld.congr rfl rfl enable setpoint limit)

theorem setAw (x : AngleUnit) : b.Quiet (b.setAw x) :=
  ⟨rfl, rfl, rfl, .refl _ _, rfl, id, rfl, id, rfl⟩

theorem setLu (x : Option Activity) : b.Quiet (b.setLu x) :=
  ⟨rfl, rfl, rfl, .refl _ _, rfl, id, rfl, id, rfl⟩

theorem setMode (x : RunMode) : b.Quiet (b.setMode x) :=
  ⟨rfl, rfl, rfl, .refl _ _, rfl, id, rfl, id, rfl⟩

theorem setTodo (x : List Todo) : b.Quiet (b.setTodo x) :=
  ⟨rfl, rfl, rfl, .refl _ _, rfl, id, rfl, id, rfl⟩

theorem setOu {x : Output} (h : b.st.ou.Fits → x.Fits) : b.Quiet (b.setOu x) :=
  ⟨rfl, rfl, rfl, .refl _ _, rfl, id, rfl, h, rfl⟩

theorem setPoint {x : Option Point} (h : x.map Point.limitSet = b.st.point.map Point.limitSet) :
    b.Quiet (b.setPoint x) :=
  ⟨rfl, rfl, rfl, .refl _ _, rfl, id, h, id, rfl⟩

theorem setFlags {x : Flags} (h : x.headResync = b.flags.headResync) : b.Quiet { b with flags := x } :=
  ⟨rfl, rfl, rfl, .refl _ _, rfl, id, rfl, id, h⟩

theorem setStore {t : Store} (h : Store.Written b.st.sc.recordId b.store t) : b.Quiet (b.setStore t) :=
  ⟨rfl, rfl, rfl, h, rfl, id, rfl, id, rfl⟩

theorem entry {f : Record → Record} (hf : KeepsIdentity f) :
    b.Quiet (b.setStore (b.store.onOpen b.st.sc.recordId f)) :=
  setStore b ⟨f, hf, rfl⟩

theorem raise (e : StEvent) : b.Quiet (b.raise e) := setTodo b _

end Bench.Quiet

/-! ### The moves -/

/-- The station steps from segment to segment: it is RUNNING with no segment in progress, or HELD. -/
def Bench.Stepping (b : Bench) : Prop :=
  (b.st.sc.state = .running ∧ b.st.sc.segment = none) ∨ b.st.sc.state = .held

/-- One move of a station other than the commit of an admission. -/
inductive Bench.Change (b : Bench) : Bench → Prop
  | quiet {c : Bench} (h : b.Quiet c) : b.Change c
  /-- A segment in progress ends (R66, R76). -/
  | segment (g : Segment) (o : SegOutcome) : b.Change (b.finishSegment g o)
  /-- The call chain is cleared (R52). -/
  | clear : b.Change b.clearChain
  /-- The variant use ends (R53). -/
  | release : b.Change b.releaseVariant
  /-- The station enters STOPPING, CONTROLLED at first (R76). -/
  | stop {x : Context} (driving : b.st.sc.state.driving = true) (segment : b.st.sc.segment = none)
      (chain : b.st.sc.chain = [])
      (h : x.grip = { b.st.sc.grip with state := .stopping, stopKind := some .controlled }) :
      b.Change (b.setSc x)
  /-- A stop turns to COAST (R77, R98). -/
  | coast (h : b.st.sc.state = .stopping) : b.Change b.coast
  /-- A safety stop asserts LINESTOP (R81). -/
  | alarm (h : b.st.sc.state = .stopping) :
      b.Change { b.setSc { b.st.sc with safety := true } with lineStop := true }
  /-- The station becomes HELD (R64, R66). -/
  | hold {x : Context} (step : b.Stepping) (h : x.grip = { b.st.sc.grip with state := .held }) :
      b.Change (b.setSc x)
  /-- The chain has ended and a leak activity is not DONE (R74). -/
  | wait {x : Context} (step : b.Stepping) (chain : b.st.sc.chain = [])
      (h : x.grip = { b.st.sc.grip with state := .finishing }) : b.Change (b.setSc x)
  /-- A working segment is taken up (R63). -/
  | take {x : Context} (g : Segment) (step : b.Stepping)
      (h : x.grip = { b.st.sc.grip with state := .running, segment := some g }) : b.Change (b.setSc x)
  /-- CALL (R67). -/
  | push {x : Context} (r : Nat) (ret : Option Nat) (e : Recipe) (step : b.Stepping)
      (there : entryAt b.lib.recipes r = some e) (new : chainHolds b.st.sc.chain r = false)
      (h : x.grip = { b.st.sc.grip with chain := ⟨r, ret⟩ :: b.st.sc.chain }) :
      b.Change ((b.setLib (b.lib.useRecipe r)).setSc x)
  /-- CHAIN (R68). -/
  | swap {x : Context} (r : Nat) (e : Recipe) (top : ChainEntry) (below : List ChainEntry)
      (step : b.Stepping) (there : entryAt b.lib.recipes r = some e) (chain : b.st.sc.chain = top :: below)
      (new : chainHolds below r = false)
      (h : x.grip = { b.st.sc.grip with chain := ⟨r, top.ret⟩ :: below }) :
      b.Change ((b.setLib (if top.recipe = r then b.lib
        else (b.lib.dropRecipe top.recipe).useRecipe r)).setSc x)
  /-- END (R69). -/
  | pop {x : Context} (top : ChainEntry) (below : List ChainEntry) (chain : b.st.sc.chain = top :: below)
      (h : x.grip = { b.st.sc.grip with chain := below }) :
      b.Change ((b.setLib (b.lib.dropRecipe top.recipe)).setSc x)
  /-- A LISTEN is taken up: its point begins and its uses rise (R54, R63, R116). -/
  | listen {x : Context} (p : Point) (g : Segment) (set : LimitSet) (table : AngleTable)
      (step : b.Stepping) (kind : g.body.kind = .listen)
      (limits : entryAt b.lib.limits p.limitSet = some set)
      (angles : entryAt b.lib.angles b.setup.angleTable = some table)
      (h : x.grip = { b.st.sc.grip with state := .running, segment := some g }) :
      b.Change (((b.setLib (b.lib.useListen p.limitSet b.setup.angleTable)).setPoint (some p)).setSc x)
  /-- The record closes and the station becomes IDLE (R73, R161). -/
  | close (silent : Bool) (h : b.st.sc.state = .finishing ∨ b.st.sc.state = .stopping ∨
      ((b.st.sc.segment = none ∨ b.st.sc.state = .held) ∧ b.st.sc.chain = [])) :
      b.Change (b.closeRecord silent)

/-- One move of a station. -/
inductive Bench.Move (b : Bench) : Bench → Prop
  | change {c : Bench} (h : b.Change c) : b.Move c
  /-- The commit of an admission (R60). -/
  | enrol (slot : Nat) (v : Variant) (e : Recipe) (mode : RunMode) (serial : List Byte)
      (idle : b.st.sc.state = .idle) (variant : entryAt b.lib.variants slot = some v)
      (recipe : entryAt b.lib.recipes v.recipe = some e) (free : (firstFree b.store.slots).isSome = true) :
      b.Move (b.enrol slot v mode serial)

/-- `c` is what moves of the station other than a commit make of `b`. -/
def Bench.Leads : Bench → Bench → Prop := Relation.ReflTransGen Bench.Change

theorem Bench.Leads.refl (b : Bench) : b.Leads b := Relation.ReflTransGen.refl

theorem Bench.Leads.trans {b c d : Bench} (h : b.Leads c) (k : c.Leads d) : b.Leads d :=
  Relation.ReflTransGen.trans h k

theorem Bench.Change.leads {b c : Bench} (h : b.Change c) : b.Leads c := Relation.ReflTransGen.single h

theorem Bench.Quiet.leads {b c : Bench} (h : b.Quiet c) : b.Leads c := (Bench.Change.quiet h).leads

theorem Bench.Leads.next {b c d : Bench} (h : b.Leads c) (k : c.Change d) : b.Leads d :=
  Relation.ReflTransGen.tail h k

theorem Bench.Leads.quiet {b c d : Bench} (h : b.Leads c) (k : c.Quiet d) : b.Leads d :=
  h.next (.quiet k)

end Sys2Proof.Machine
end

section
/-! SUPPORT. The quiet operations of a station: what they do, no invariant reads. -/

namespace Sys2Proof.Machine

variable {b c : Bench}

/-! ### Outputs -/

theorem Output.Fits.wait {o : Output} (h : o.Fits) : o.wait.Fits := by
  unfold Output.wait
  split
  next free => exact ⟨h.1, free⟩
  next => exact ⟨countUp_le _, h.2⟩

theorem Output.Fits.beginPulse {o : Output} (su : Setup) (h : o.Fits) : (o.beginPulse su).Fits := h

theorem Output.Fits.trigger {o : Output} (su : Setup) (h : o.Fits) : (o.trigger su).Fits := by
  unfold Output.trigger
  split
  · exact h
  · exact h.wait
  · exact h
  · exact h.wait

theorem Output.Fits.verdict {o : Output} (su : Setup) (v : Verdict) (h : o.Fits) :
    (o.verdict su v).Fits := by
  cases v with
  | pass | aborted => exact h
  | fail | notJudged | faulted => exact h.trigger su

theorem Output.Fits.endRecovery {o : Output} (su : Setup) (h : o.Fits) : (o.endRecovery su).Fits := by
  unfold Output.endRecovery
  split
  · exact ⟨h.1, (Nat.sub_le _ _).trans h.2⟩
  · exact h

theorem Output.Fits.endPulse {o : Output} (su : Setup) (h : o.Fits) : (o.endPulse su).Fits := by
  unfold Output.endPulse
  dsimp only
  split
  · exact Output.Fits.endRecovery su h
  · exact h

theorem Output.Fits.tickTimers {o : Output} (h : o.Fits) : o.tickTimers.Fits := by
  unfold Output.tickTimers
  split <;> exact h

theorem Output.Fits.clearReject {o : Output} (su : Setup) (h : o.Fits) : (o.clearReject su).Fits := by
  unfold Output.clearReject
  split <;> exact ⟨h.1, Nat.zero_le _⟩

/-! ### Drive control -/

/-- Enable and torque limit follow the state: a drive that must be off is off, no setpoint moves (R88). -/
theorem Bench.follow_spec (b : Bench) : ∃ d, b.follow = b.setDc d ∧ d.setpoint = b.st.dc.setpoint ∧
    (b.st.dc.Off → b.st.sc.state = .idle ∨ (b.st.sc.state = .stopping ∧ b.st.sc.stopKind = some .coast) →
      d.Off) := by
  unfold Bench.follow
  split
  · exact ⟨_, rfl, rfl, fun off _ => ⟨rfl, off.2.1, rfl⟩⟩
  · exact ⟨_, rfl, rfl, fun off _ => ⟨rfl, off.2.1, rfl⟩⟩
  all_goals
    refine ⟨_, rfl, rfl, fun _ must => ?_⟩
    simp_all

theorem Bench.quiet_follow (b : Bench) : b.Quiet b.follow := by
  obtain ⟨d, h, setpoint, off⟩ := b.follow_spec
  rw [h]
  refine .setDc b fun held => ⟨fun idle => off (held.1 idle) (.inl idle),
    fun stop coast => off (held.2.1 stop coast) (.inr ⟨stop, coast⟩), ?_⟩
  exact (congrArg Int.natAbs setpoint).trans_le held.2.2

theorem Bench.newSetpoint_le (b : Bench) : b.newSetpoint.natAbs ≤ b.vmax := by
  unfold Bench.newSetpoint
  split
  · exact Nat.zero_le _
  · exact clampTo_natAbs_le _ _

/-- The setpoint formed stays within Vmax, and is 0 in a COAST stop (R87). -/
theorem Bench.quiet_form (b : Bench) : b.Quiet b.form := by
  unfold Bench.form
  split
  · exact .refl b
  next busy =>
    refine Bench.Quiet.trans (.setDc b fun held => ?_) (Bench.quiet_follow _)
    refine ⟨fun idle => absurd idle busy, fun stop coast => ?_, b.newSetpoint_le⟩
    obtain ⟨enable, -, limit⟩ := held.2.1 stop coast
    exact ⟨enable, if_pos ⟨coast, stop⟩, limit⟩

theorem Bench.quiet_superviseRuns (b : Bench) : b.Quiet b.superviseRuns := by
  unfold Bench.superviseRuns
  dsimp only
  split
  · split <;> exact .setDc_same b rfl rfl rfl
  · exact .setDc_same b rfl rfl rfl

theorem Bench.quiet_supervise (b : Bench) : b.Quiet b.supervise := by
  unfold Bench.supervise
  split
  · dsimp only
    have runs := b.quiet_superviseRuns
    split
    · exact runs.trans (.raise _ _)
    · split
      · exact runs.trans (.raise _ _)
      · split
        · exact runs.trans (.raise _ _)
        · exact runs
  · exact .refl b

theorem Bench.quiet_disable (b : Bench) : b.Quiet (b.setDc b.st.dc.disable) :=
  .setDc b fun _ => ⟨fun _ => ⟨rfl, rfl, rfl⟩, fun _ _ => ⟨rfl, rfl, rfl⟩, Nat.zero_le _⟩

theorem Bench.quiet_freeze (b : Bench) : b.Quiet (b.setDc b.st.dc.freeze) :=
  .setDc_same b rfl rfl rfl

theorem Bench.quiet_stopDrive (b : Bench) (su : Setup) : b.Quiet (b.setDc (b.st.dc.stop su)) :=
  .setDc_same b rfl rfl rfl

/-- The drive at the beginning of a segment keeps enable, setpoint and torque limit (R84). -/
theorem Drive.begin_keeps (body : SegBody) (d : Drive) : (d.begin body).enable = d.enable ∧
    (d.begin body).setpoint = d.setpoint ∧ (d.begin body).torqueLimit = d.torqueLimit := by
  unfold Drive.begin
  dsimp only
  split <;> exact ⟨rfl, rfl, rfl⟩

theorem Bench.quiet_begin (b : Bench) (body : SegBody) : b.Quiet (b.setDc (b.st.dc.begin body)) :=
  have ⟨enable, setpoint, limit⟩ := Drive.begin_keeps body b.st.dc
  .setDc_same b enable setpoint limit

theorem Bench.quiet_feedbackStep (b : Bench) (enabled fresh : Bool) :
    b.Quiet (b.setDc (b.st.dc.feedbackStep enabled fresh)) := by
  unfold Drive.feedbackStep
  split
  · split <;> exact .setDc_same b rfl rfl rfl
  · exact .setDc_same b rfl rfl rfl

/-! ### Entries of the record -/

theorem Bench.quiet_recordDefect (b : Bench) (c : DefectCode) : b.Quiet (b.recordDefect c) :=
  .entry b (addDefect_keepsIdentity c _)

theorem Bench.quiet_appendSegment (b : Bench) (x : SegResult) : b.Quiet (b.appendSegment x) :=
  .entry b (addSegment_keepsIdentity x)

theorem Bench.quiet_leakDefect (b : Bench) (owner : Nat) (c : Option DefectCode) :
    b.Quiet (b.leakDefect owner c) := by
  unfold Bench.leakDefect
  split
  · split
    next own =>
      rw [own]
      exact .entry b (addDefect_keepsIdentity _ _)
    · exact .refl b
  · exact .refl b

theorem Bench.quiet_placeLeak (b : Bench) (owner : Nat) (x : LeakResult) :
    b.Quiet (b.placeLeak owner x) := by
  unfold Bench.placeLeak
  split
  next own =>
    rw [own]
    exact .entry b (placeLeak_keepsIdentity x)
  · exact .refl b

theorem Store.Written.foldl {α : Type} {id : Nat} {t : Store} (f : Store → α → Store)
    (hf : ∀ u x, Store.Written id u (f u x)) (xs : List α) : Store.Written id t (xs.foldl f t) := by
  induction xs generalizing t with
  | nil => exact .refl id t
  | cons x xs ih => exact (hf t x).trans ih

theorem Bench.quiet_writePoint (b : Bench) : b.Quiet b.writePoint := by
  unfold Bench.writePoint
  split
  · exact .refl b
  next p hp =>
    dsimp only
    refine Bench.Quiet.trans (.setStore b ?_) (.setPoint _ ?_)
    · refine Store.Written.trans (Store.Written.foldl _ (fun u l => ⟨_, addOrder_keepsIdentity _, rfl⟩) _)
        (Store.Written.foldl _ (fun u l => ?_) _)
      split
      · exact ⟨_, addDefect_keepsIdentity _ _, rfl⟩
      · exact .refl _ u
    · simp [hp, Point.cutOff]

/-! ### Angle window unit -/

theorem Bench.quiet_testCutOff (b : Bench) : b.Quiet b.testCutOff := by
  unfold Bench.testCutOff
  split
  · exact .raise b _
  · exact .refl b

theorem Bench.quiet_voidWindow (b : Bench) (r : VoidReason) (v : Option Nat) :
    b.Quiet (b.voidWindow r v) := by
  unfold Bench.voidWindow
  split
  · exact .trans (.setAw b _) (Bench.quiet_testCutOff _)
  · exact .refl b

theorem Bench.quiet_startWindow (b : Bench) (x : SampleSet) (d : Int) : b.Quiet (b.startWindow x d) := by
  unfold Bench.startWindow
  split
  · exact .setAw b _
  · exact .refl b

theorem Bench.quiet_testStart (b : Bench) (x : SampleSet) (d : Int) : b.Quiet (b.testStart x d) := by
  unfold Bench.testStart
  split
  · exact b.quiet_startWindow x d
  · exact .refl b

theorem Bench.quiet_collect (b : Bench) (x : SampleSet) (d : Int) : b.Quiet (b.collect x d) := by
  unfold Bench.collect
  split
  · dsimp only
    split
    · exact .raise b _
    · split
      · exact .setAw b _
      · split
        · split
          · split
            · exact .trans (.setAw b _) (.setAw _ _)
            · exact .trans (.trans (.setAw b _) (.setAw _ _)) (.raise _ _)
          · exact .trans (.setAw b _) (Bench.quiet_voidWindow _ _ _)
        · exact .trans (.setAw b _) (Bench.quiet_voidWindow _ _ _)
  · exact .refl b

theorem Bench.quiet_sampleSet (b : Bench) (x : SampleSet) : b.Quiet (b.sampleSet x) := by
  unfold Bench.sampleSet
  dsimp only
  split
  · exact .setAw b _
  · split
    · exact .setAw b _
    · exact .trans (.setAw b _) (Bench.quiet_testStart _ _ _)
    · exact .trans (.setAw b _) (Bench.quiet_collect _ _ _)

theorem Bench.quiet_gapSignal (b : Bench) : b.Quiet b.gapSignal :=
  .trans (.setAw b _) (Bench.quiet_voidWindow _ _ _)

theorem Bench.quiet_steadyTest (b : Bench) : b.Quiet b.steadyTest := by
  unfold Bench.steadyTest
  split
  · exact .refl b
  · exact b.quiet_voidWindow _ _

theorem Bench.quiet_listenLimit (b : Bench) : b.Quiet b.listenLimit := by
  unfold Bench.listenLimit
  split
  · split
    · exact .raise b _
    · exact .refl b
  · exact .refl b

theorem Bench.quiet_handOver (b : Bench) (w : WindowRecord) (p : ListenParams) (pt : Point) (v : Nat)
    (h : b.st.point = some pt) : b.Quiet (b.handOver w p pt v) :=
  .trans (.setAw b _) (.setPoint _ (by simp [h]))

/-! ### Leak unit -/

theorem Bench.quiet_fixLeak (b : Bench) (o : LeakOutcome) (r : Option LeakReason)
    (c : Option DefectCode) : b.Quiet (b.fixLeak o r c) := by
  unfold Bench.fixLeak
  split
  · split
    · exact ((Bench.Quiet.setLu b _).trans (Bench.quiet_leakDefect _ _ _)).trans
        (Bench.quiet_placeLeak _ _ _)
    · exact .refl b
  · exact .refl b

theorem Bench.quiet_abortLeak (b : Bench) : b.Quiet b.abortLeak := b.quiet_fixLeak _ _ _

theorem Bench.quiet_startLeak (b : Bench) (p : LeakParams) : b.Quiet (b.startLeak p) := by
  unfold Bench.startLeak
  dsimp only
  split
  · exact .setLu b _
  · exact .trans (.setLu b _) (.setFlags _ rfl)

theorem Bench.quiet_workFillWait (b : Bench) (a : Activity) : b.Quiet (b.workFillWait a) := by
  unfold Bench.workFillWait
  split
  · exact .raise b _
  · split
    · exact .raise b _
    · exact .refl b

theorem Bench.quiet_workFill (b : Bench) (a : Activity) : b.Quiet (b.workFill a) := by
  unfold Bench.workFill
  split
  · split
    · exact .raise b _
    · split
      · exact .raise b _
      · exact .refl b
  · split
    · exact .raise b _
    · exact .refl b

theorem Bench.quiet_workSettle (b : Bench) (a : Activity) : b.Quiet (b.workSettle a) := by
  unfold Bench.workSettle
  split
  · exact .raise b _
  · exact .refl b

theorem Bench.quiet_workVent (b : Bench) (a : Activity) : b.Quiet (b.workVent a) := by
  unfold Bench.workVent
  split
  · split
    · exact .raise b _
    · split
      · exact .raise b _
      · exact .refl b
  · split
    · exact .raise b _
    · exact .refl b

theorem Bench.quiet_workStart (b : Bench) (a : Activity) : b.Quiet (b.workStart a) := by
  unfold Bench.workStart
  dsimp only
  split
  · exact .trans (.setLu b _) (.raise _ _)
  · split
    · exact .trans (.setLu b _) (.raise _ _)
    · exact .setLu b _

theorem Bench.quiet_workEnd (b : Bench) (k : Nat) (a : Activity) : b.Quiet (b.workEnd k a) := by
  unfold Bench.workEnd
  dsimp only
  split
  · exact .refl b
  · split
    · exact .trans (.setLu b _) (.raise _ _)
    · split
      · exact .trans (.setLu b _) (.raise _ _)
      · exact .setLu b _

theorem Bench.quiet_workPhase (b : Bench) (a : Activity) : b.Quiet (b.workPhase a) := by
  unfold Bench.workPhase
  split
  · exact b.quiet_workFillWait a
  · exact b.quiet_workFill a
  · exact b.quiet_workSettle a
  · split
    · exact b.quiet_workStart a
    · exact b.quiet_workEnd _ a
  · exact b.quiet_workVent a
  · exact .refl b

theorem Bench.quiet_leakWork (b : Bench) : b.Quiet b.leakWork := by
  unfold Bench.leakWork
  split
  · exact .refl b
  · split
    · exact .refl b
    · split
      · exact .refl b
      · exact .setLu b _
      · exact .trans (.setLu b _) (Bench.quiet_workPhase _ _)

theorem Bench.quiet_fill (b : Bench) : b.Quiet b.fill := by
  unfold Bench.fill
  split
  · exact .trans (.setLu b _) (Bench.quiet_voidWindow _ _ _)
  · exact .refl b

theorem Bench.quiet_settlePhase (b : Bench) : b.Quiet b.settlePhase := by
  unfold Bench.settlePhase
  split
  · exact .setLu b _
  · exact .refl b

theorem Bench.quiet_grossLeak (b : Bench) : b.Quiet b.grossLeak := by
  unfold Bench.grossLeak
  split
  · exact .trans (.setLu b _) (Bench.quiet_fixLeak _ _ _ _)
  · exact .refl b

theorem Bench.quiet_measure (b : Bench) : b.Quiet b.measure := by
  unfold Bench.measure
  split
  · exact .setLu b _
  · exact .refl b

theorem Bench.quiet_startBlock (b : Bench) : b.Quiet b.startBlock := by
  unfold Bench.startBlock
  split
  · split
    · exact .setLu b _
    · exact .refl b
  · exact .refl b

theorem Bench.quiet_endBlock (b : Bench) : b.Quiet b.endBlock := by
  unfold Bench.endBlock
  split
  · split
    · dsimp only
      split <;> exact .trans (.setLu b _) (Bench.quiet_fixLeak _ _ _ _)
    · exact .refl b
  · exact .refl b

theorem Bench.quiet_leakDone (b : Bench) : b.Quiet b.leakDone := by
  unfold Bench.leakDone
  split
  · exact .setLu b _
  · exact .refl b

/-! ### The rest of the work of an event -/

theorem Bench.quiet_outputWork (b : Bench) : b.Quiet b.outputWork := by
  unfold Bench.outputWork
  split
  · exact .refl b
  · dsimp only
    refine Bench.Quiet.trans (.setOu b Output.Fits.tickTimers) ?_
    split
    · split
      · exact .raise _ _
      · exact .refl _
    · split
      · exact .raise _ _
      · exact .refl _
    · exact .refl _

theorem Bench.quiet_timers (b : Bench) : b.Quiet b.timers :=
  ⟨rfl, rfl, rfl, .refl _ _, rfl, id, rfl, id, rfl⟩

theorem Bench.quiet_makeReady (b : Bench) : b.Quiet b.makeReady :=
  ⟨rfl, rfl, rfl, .refl _ _, rfl, id, rfl, id, rfl⟩

theorem Bench.quiet_stopTest (b : Bench) : b.Quiet b.stopTest := by
  unfold Bench.stopTest
  split
  · exact .raise b _
  · exact .refl b

theorem Bench.quiet_stopLimit (b : Bench) : b.Quiet b.stopLimit := by
  unfold Bench.stopLimit
  split
  · split
    · exact .raise b _
    · exact .raise b _
  · exact .refl b

theorem Bench.quiet_countSegment (b : Bench) : b.Quiet b.countSegment := .setSc b rfl

end Sys2Proof.Machine
end

section
/-! SUPPORT. Every piece of a station's work and every due step of it is made of moves. -/

namespace Sys2Proof.Machine

/-! ### Segments, stops, closes -/

@[simp] theorem Bench.endListen_sc (b : Bench) : b.endListen.st.sc = b.st.sc := by
  unfold Bench.endListen
  split <;> rfl

@[simp] theorem Bench.finishSegment_sc (b : Bench) (g : Segment) (o : SegOutcome) :
    (b.finishSegment g o).st.sc = { b.st.sc with segment := none } := by
  simp [Bench.finishSegment, Bench.appendSegment]

theorem Bench.leads_finishSegment (b : Bench) (g : Segment) (o : SegOutcome) :
    b.Leads (b.finishSegment g o) := (Bench.Change.segment g o).leads

theorem Bench.leads_abandonSegment (b : Bench) : b.Leads b.abandonSegment := by
  unfold Bench.abandonSegment
  split
  · exact b.leads_finishSegment _ _
  · exact .refl b

theorem Bench.abandonSegment_sc (b : Bench) :
    b.abandonSegment.st.sc = { b.st.sc with segment := none } := by
  unfold Bench.abandonSegment
  split
  · exact b.finishSegment_sc _ _
  next none => rw [← none]

/-- What a stop or a reset ends before the station leaves its state: the segment in progress, the call chain
and the leak activity (R76, R82, R150). -/
def Bench.testOver (b : Bench) : Bench := b.abandonSegment.clearChain.abortLeak

theorem Bench.leads_testOver (b : Bench) : b.Leads b.testOver :=
  (b.leads_abandonSegment.next .clear).quiet (Bench.quiet_abortLeak _)

theorem Bench.fixLeak_sc (b : Bench) (o : LeakOutcome) (r : Option LeakReason) (c : Option DefectCode) :
    (b.fixLeak o r c).st.sc = b.st.sc := by
  unfold Bench.fixLeak Bench.placeLeak Bench.leakDefect
  repeat' split
  all_goals rfl

theorem Bench.testOver_sc (b : Bench) :
    b.testOver.st.sc = { b.st.sc with segment := none, chain := [] } := by
  simp only [Bench.testOver, Bench.abortLeak, Bench.fixLeak_sc, Bench.clearChain, Bench.setSc_sc,
    Bench.abandonSegment_sc]

@[simp] theorem Bench.follow_sc (b : Bench) : b.follow.st.sc = b.st.sc := by
  obtain ⟨d, h, -⟩ := b.follow_spec
  rw [h]
  rfl

/-- The context with which a station enters STOPPING (R76). -/
def Context.stopped (reason : StopReason) (x : Context) : Context :=
  { x with
    state := .stopping, stopKind := some .controlled, stopReason := some reason, stopTimer := 0
    holdReason := none, segment := none, chain := [] }

/-- The bench of a driving station in STOPPING, before a stop of kind COAST disables the drive. -/
def Bench.halted (reason : StopReason) (b : Bench) : Bench :=
  let b := b.testOver
  let b := b.setSc { b.st.sc with
    state := .stopping, stopKind := some .controlled, stopReason := some reason, stopTimer := 0
    holdReason := none }
  (b.setDc (b.st.dc.stop b.setup)).follow

/-- The entry into STOPPING of a driving station (R76). -/
theorem Bench.enterStopping_of_driving {b : Bench} (kind : StopKind) (reason : StopReason)
    (h : b.st.sc.state.driving = true) : b.enterStopping kind reason =
      match kind with
      | .controlled => b.halted reason
      | .coast => (b.halted reason).coast := by
  simp only [Bench.enterStopping, if_pos h]
  cases kind <;> rfl

theorem Bench.halted_sc (b : Bench) (reason : StopReason) :
    (b.halted reason).st.sc = b.st.sc.stopped reason := by
  simp [Bench.halted, Bench.testOver_sc, Context.stopped]

theorem Bench.leads_halted {b : Bench} (reason : StopReason) (h : b.st.sc.state.driving = true) :
    b.Leads (b.halted reason) := by
  have stop : b.testOver.Change (b.testOver.setSc { b.testOver.st.sc with
      state := .stopping, stopKind := some .controlled, stopReason := some reason, stopTimer := 0
      holdReason := none }) :=
    .stop (by simpa [Bench.testOver_sc] using h) (by simp [Bench.testOver_sc])
      (by simp [Bench.testOver_sc]) rfl
  exact ((b.leads_testOver.next stop).quiet (Bench.quiet_stopDrive _ _)).quiet (Bench.quiet_follow _)

theorem Bench.leads_enterStopping (b : Bench) (kind : StopKind) (reason : StopReason) :
    b.Leads (b.enterStopping kind reason) := by
  cases h : b.st.sc.state.driving with
  | false => rw [Bench.enterStopping_of_not_driving kind reason h]; exact .refl b
  | true =>
    rw [Bench.enterStopping_of_driving kind reason h]
    cases kind with
    | controlled => exact Bench.leads_halted reason h
    | coast => exact (Bench.leads_halted reason h).next (.coast (by rw [Bench.halted_sc]; rfl))

theorem Bench.enterStopping_state {b : Bench} (kind : StopKind) (reason : StopReason)
    (h : b.st.sc.state.driving = true) : (b.enterStopping kind reason).st.sc.state = .stopping := by
  rw [Bench.enterStopping_of_driving kind reason h]
  cases kind <;> simp [Bench.coast, Bench.halted_sc, Context.stopped]

theorem Bench.leads_faultTest (b : Bench) (c : DefectCode) : b.Leads (b.faultTest c) :=
  (b.quiet_recordDefect c).leads.trans (Bench.leads_enterStopping _ _ _)

theorem StState.driving_of_ne {x : StState} (idle : x ≠ .idle) (stopping : x ≠ .stopping) :
    x.driving = true := by
  cases x with
  | running | held | finishing => rfl
  | idle => exact absurd rfl idle
  | stopping => exact absurd rfl stopping

/-- A station that trips: its stop turns to COAST, or it enters a COAST stop (R81). -/
def Bench.tripped (b : Bench) : Bench :=
  if b.st.sc.state = .stopping then b.coast else b.enterStopping .coast .safety

theorem Bench.trip_eq {b : Bench} (c : DefectCode) (h : b.st.sc.state ≠ .idle) : b.trip c =
    { (b.tripped.setSc { b.tripped.st.sc with safety := true }).recordDefect c with
      lineStop := true, flags := b.tripped.flags.setSafety } := by
  simp only [Bench.trip, if_neg h, Bench.tripped]
  rfl

theorem Bench.tripped_state {b : Bench} (h : b.st.sc.state ≠ .idle) :
    b.tripped.st.sc.state = .stopping := by
  unfold Bench.tripped
  split
  next stopping => exact stopping
  next stopping => exact Bench.enterStopping_state _ _ (StState.driving_of_ne h stopping)

theorem Bench.leads_tripped (b : Bench) : b.Leads b.tripped := by
  unfold Bench.tripped
  split
  next stopping => exact (Bench.Change.coast stopping).leads
  · exact b.leads_enterStopping _ _

theorem Bench.leads_trip (b : Bench) (c : DefectCode) : b.Leads (b.trip c) := by
  by_cases h : b.st.sc.state = .idle
  · simp only [Bench.trip, if_pos h]
    exact .refl b
  · rw [Bench.trip_eq c h]
    exact ((b.leads_tripped.next (.alarm (Bench.tripped_state h))).quiet
      (Bench.quiet_recordDefect _ c)).quiet (.setFlags _ rfl)

theorem Bench.leads_closeRecord {b : Bench} (silent : Bool) (h : b.st.sc.state = .finishing ∨
    b.st.sc.state = .stopping ∨
    ((b.st.sc.segment = none ∨ b.st.sc.state = .held) ∧ b.st.sc.chain = [])) :
    b.Leads (b.closeRecord silent) := (Bench.Change.close silent h).leads

/-! ### Stepping -/

/-- A piece of stepping of `b` is made of moves, and where it reaches an index the station still steps. -/
def Flow.From (b : Bench) : Flow → Prop
  | .halt c => b.Leads c
  | .reach _ c => b.Leads c ∧ c.Stepping

/-- The beginning of a segment at `b` is made of moves, and a segment ended at once is in progress. -/
def Begun.From (b : Bench) : Begun → Prop
  | .running c => b.Leads c
  | .ended _ c => b.Leads c ∧ c.st.sc.state = .running
  | .faulted c => b.Leads c

theorem Bench.leads_holdAt {b : Bench} (step : b.Stepping) (r : HoldReason) (k : Nat) :
    b.Leads (b.holdAt r k) :=
  ((Bench.Change.hold step rfl).leads.quiet (Bench.quiet_freeze _)).quiet (Bench.quiet_follow _)

theorem Bench.leads_endOfTest {b : Bench} (step : b.Stepping) (chain : b.st.sc.chain = []) :
    b.Leads b.endOfTest := by
  unfold Bench.endOfTest
  split
  · exact ((Bench.Change.wait step chain rfl).leads.quiet (Bench.quiet_freeze _)).quiet
      (Bench.quiet_follow _)
  · exact Bench.leads_closeRecord false (.inr (.inr ⟨step.imp_left And.right, chain⟩))

theorem Bench.afterSegment_from {b c : Bench} (h : b.Leads c) (step : c.Stepping) (o : SegOutcome) :
    (c.afterSegment o).From b := by
  unfold Bench.afterSegment
  split
  · exact h.trans (Bench.leads_holdAt step _ _)
  · exact (h.quiet (.setMode c .hold)).trans (Bench.leads_holdAt (b := c.setMode .hold) step _ _)
  · split
    · exact h.trans (Bench.leads_holdAt step _ _)
    · exact ⟨h, step⟩
  · exact ⟨h, step⟩

theorem Option.isNone_of_not_isNone {α : Type} {o : Option α} (h : ¬ o.isNone = true) :
    ∃ x, o = some x := by
  cases o with
  | none => exact absurd rfl h
  | some x => exact ⟨x, rfl⟩

theorem Bench.call_from {b : Bench} (step : b.Stepping) (r k : Nat) : (b.call r k).From b := by
  unfold Bench.call
  split
  · exact b.leads_faultTest _
  next there =>
    obtain ⟨e, he⟩ := Option.isNone_of_not_isNone there
    split
    · exact b.leads_faultTest _
    next new =>
      split
      · exact b.leads_faultTest _
      · exact ⟨(Bench.Change.push r _ e step he (by simpa using new) rfl).leads, step⟩

theorem Bench.chainTo_from {b : Bench} (step : b.Stepping) (r : Nat) : (b.chainTo r).From b := by
  unfold Bench.chainTo
  split
  · exact b.leads_faultTest _
  next there =>
    obtain ⟨e, he⟩ := Option.isNone_of_not_isNone there
    split
    · exact b.leads_faultTest _
    next new =>
      split
      next top below chain =>
        have new : chainHolds below r = false := by simpa [chain] using new
        exact ⟨(Bench.Change.swap r e top below step he chain new rfl).leads, step⟩
      · exact .refl b

theorem Bench.finish_from {b : Bench} (step : b.Stepping) : b.finish.From b := by
  unfold Bench.finish
  split
  next top next below chain => exact ⟨(Bench.Change.pop top (next :: below) chain rfl).leads, step⟩
  next top chain =>
    exact (Bench.Change.pop top [] chain rfl).leads.trans (Bench.leads_endOfTest step rfl)
  · exact .refl b

theorem Bench.takeUp_sc (b : Bench) (g : Segment) (k : Nat) : (b.takeUp g k).st.sc =
    { b.st.sc with
      state := .running, holdReason := none, index := k, segTimer := 0, pauseRelease := false
      segment := some g } := by
  simp [Bench.takeUp]

theorem Bench.leads_takeUp {b : Bench} (step : b.Stepping) (g : Segment) (k : Nat) :
    b.Leads (b.takeUp g k) :=
  ((Bench.Change.take g step rfl).leads.quiet (Bench.quiet_begin _ g.body)).quiet (Bench.quiet_follow _)

theorem Bench.leads_faultListen (b : Bench) (c : DefectCode) (k : Nat) : b.Leads (b.faultListen c k) :=
  (b.quiet_appendSegment _).leads.trans (Bench.leads_faultTest _ c)

theorem Bench.usableAngles_spec {b : Bench} {n : Nat} {t : AngleTable} (h : b.usableAngles n = some t) :
    entryAt b.lib.angles b.setup.angleTable = some t ∧ t.state = .present ∧
      t.e * n ≤ Config.maxWindow := by
  unfold Bench.usableAngles at h
  split at h
  next u hu =>
    split at h
    next good =>
      cases h
      exact ⟨hu, good⟩
    · cases h
  · cases h

/-- The bench on which a LISTEN has begun (R63, R104, R116). -/
def Bench.listenBegun (g : Segment) (k setNo n : Nat) (t : AngleTable) (p : Point) (b : Bench) : Bench :=
  (((b.takeUp g k).setLib (b.lib.useListen setNo b.setup.angleTable)).setAw
    (b.st.aw.beginListen { e := t.e, n := n, channel := b.setup.channel, table := t.values })).setPoint
      (some p)

theorem Bench.takeUp_eq (b : Bench) (g : Segment) (k : Nat) :
    ∃ d, b.takeUp g k = (b.setSc (b.takeUp g k).st.sc).setDc d := by
  obtain ⟨d, h, -⟩ := ((b.setSc { b.st.sc with
    state := .running, holdReason := none, index := k, segTimer := 0, pauseRelease := false
    segment := some g }).setDc (b.st.dc.begin g.body)).follow_spec
  exact ⟨d, by rw [Bench.takeUp_sc]; exact h⟩

theorem Bench.beginListen_eq {b : Bench} {g : Segment} {k setNo n most limit : Nat} {ls : LimitSet}
    {t : AngleTable} (hl : entryAt b.lib.limits setNo = some ls) (ht : b.usableAngles n = some t) :
    b.beginListen g k setNo n most limit =
      (let p := beginPoint setNo ls t.e most limit b.st.sc.executed
       let x := b.listenBegun g k setNo n t p
       if p.settled then .ended p.outcome x.writePoint else .running x) := by
  obtain ⟨d, hd⟩ := b.takeUp_eq g k
  have lib : (b.takeUp g k).lib = b.lib := by rw [hd]; rfl
  have aw : (b.takeUp g k).st.aw = b.st.aw := by rw [hd]; rfl
  have setup : (b.takeUp g k).setup = b.setup := by rw [hd]; rfl
  have executed : (b.takeUp g k).st.sc.executed = b.st.sc.executed := by rw [Bench.takeUp_sc]
  simp [Bench.beginListen, hl, ht, Bench.listenBegun, lib, aw, setup, executed]

theorem Bench.leads_listenBegun {b : Bench} (step : b.Stepping) {g : Segment} (kind : g.body.kind = .listen)
    {k setNo n most limit : Nat} {ls : LimitSet} {t : AngleTable}
    (hl : entryAt b.lib.limits setNo = some ls) (ht : b.usableAngles n = some t) :
    b.Leads (b.listenBegun g k setNo n t (beginPoint setNo ls t.e most limit b.st.sc.executed)) := by
  obtain ⟨d, hd⟩ := b.takeUp_eq g k
  have drive := (Bench.quiet_begin (b.setSc (b.takeUp g k).st.sc) g.body).trans (Bench.quiet_follow _)
  have hbegin : ((b.setSc (b.takeUp g k).st.sc).setDc (b.st.dc.begin g.body)).follow = b.takeUp g k := by
    rw [Bench.takeUp_sc]
    rfl
  have held : (b.setSc (b.takeUp g k).st.sc).DriveHeld → (b.takeUp g k).DriveHeld := hbegin ▸ drive.drive
  let p := beginPoint setNo ls t.e most limit b.st.sc.executed
  have move : b.Change (((b.setLib (b.lib.useListen p.limitSet b.setup.angleTable)).setPoint (some p)).setSc
      (b.takeUp g k).st.sc) :=
    .listen p g ls t step kind hl (Bench.usableAngles_spec ht).1 (by rw [Bench.takeUp_sc]; rfl)
  have same : b.listenBegun g k setNo n t p =
      ((((b.setLib (b.lib.useListen p.limitSet b.setup.angleTable)).setPoint (some p)).setSc
        (b.takeUp g k).st.sc).setDc d).setAw
        (b.st.aw.beginListen { e := t.e, n := n, channel := b.setup.channel, table := t.values }) := by
    unfold Bench.listenBegun
    rw [hd]
    rfl
  rw [same]
  refine (move.leads.quiet (.setDc _ fun h => ?_)).quiet (.setAw _ _)
  rw [hd] at held
  exact held h

theorem Bench.writePoint_sc (b : Bench) : b.writePoint.st.sc = b.st.sc := by
  unfold Bench.writePoint
  split <;> rfl

theorem Bench.beginListen_from {b : Bench} (step : b.Stepping) {g : Segment} (kind : g.body.kind = .listen)
    (k setNo n most limit : Nat) : (b.beginListen g k setNo n most limit).From b := by
  cases hl : entryAt b.lib.limits setNo with
  | none =>
    simp only [Bench.beginListen, hl]
    exact b.leads_faultListen _ _
  | some ls =>
    cases ht : b.usableAngles n with
    | none =>
      simp only [Bench.beginListen, hl, ht]
      exact b.leads_faultListen _ _
    | some t =>
      rw [Bench.beginListen_eq hl ht]
      have leads := Bench.leads_listenBegun (k := k) (most := most) (limit := limit) step kind hl ht
      dsimp only
      split
      · refine ⟨leads.quiet (Bench.quiet_writePoint _), ?_⟩
        rw [Bench.writePoint_sc]
        exact congrArg Context.state (b.takeUp_sc g k)
      · exact leads

theorem Bench.takeUp_state (b : Bench) (g : Segment) (k : Nat) :
    (b.takeUp g k).st.sc.state = .running := by rw [Bench.takeUp_sc]

theorem Bench.startLeak_sc (b : Bench) (p : LeakParams) : (b.startLeak p).st.sc = b.st.sc := by
  unfold Bench.startLeak
  dsimp only
  split <;> rfl

theorem Bench.beginSegment_from {b : Bench} (step : b.Stepping) (g : Segment) (k : Nat) :
    (b.beginSegment g k).From b := by
  have taken := Bench.leads_takeUp step g k
  unfold Bench.beginSegment
  split
  next hg => exact Bench.beginListen_from step (by rw [hg]; rfl) _ _ _ _ _
  · dsimp only
    split
    · exact ⟨taken.quiet (Bench.quiet_recordDefect _ _), b.takeUp_state g k⟩
    · refine ⟨taken.quiet (Bench.quiet_startLeak _ _), ?_⟩
      rw [Bench.startLeak_sc]
      exact b.takeUp_state g k
  · dsimp only
    split
    · exact taken
    · exact ⟨taken, b.takeUp_state g k⟩
  · exact taken

theorem Bench.finishSegment_stepping {b : Bench} (h : b.st.sc.state = .running) (g : Segment)
    (o : SegOutcome) : (b.finishSegment g o).Stepping := by
  simp [Bench.Stepping, h]

theorem Begun.next_from {b : Bench} {x : Begun} (h : x.From b) (g : Segment) : (x.next g).From b := by
  cases x with
  | running c => exact h
  | faulted c => exact h
  | ended o c =>
    exact Bench.afterSegment_from (h.1.trans (c.leads_finishSegment g o))
      (Bench.finishSegment_stepping h.2 g o) o

theorem Bench.reachOne_from {b : Bench} (step : b.Stepping) (k : Nat) : (b.reachOne k).From b := by
  unfold Bench.reachOne
  split
  · exact b.leads_faultTest _
  · split
    · exact Bench.call_from step _ _
    · exact Bench.chainTo_from step _
    · exact Bench.finish_from step
    · split
      · exact Bench.leads_holdAt step _ _
      · exact Begun.next_from (Bench.beginSegment_from step _ _) _

theorem Bench.leads_advance {b : Bench} (step : b.Stepping) (n k : Nat) : b.Leads (advance n k b) := by
  induction n generalizing k b with
  | zero => exact .refl b
  | succ n ih =>
    have counted : b.Leads b.countSegment := b.quiet_countSegment.leads
    have reached := Bench.reachOne_from (b := b.countSegment) step k
    unfold advance
    dsimp only
    split
    · exact counted.quiet (.raise _ _)
    · split
      next hr => rw [hr] at reached; exact counted.trans reached
      next hr => rw [hr] at reached; exact (counted.trans reached.1).trans (ih reached.2 _)

theorem Flow.leads_run {b : Bench} {f : Flow} (h : f.From b) : b.Leads f.run := by
  cases f with
  | halt c => exact h
  | reach k c => exact h.1.trans (Bench.leads_advance h.2 _ _)

theorem Bench.leads_endSegment (b : Bench) (o : SegOutcome) : b.Leads (b.endSegment o) := by
  unfold Bench.endSegment
  split
  next running _ =>
    exact Flow.leads_run (Bench.afterSegment_from (b.leads_finishSegment _ o)
      (Bench.finishSegment_stepping running _ o) o)
  · exact .refl b

/-! ### The steps of a station -/

theorem Bench.leads_testTrip (b : Bench) (c : DefectCode) (holds latched : Bool)
    (setLatch : Bool → Drive → Drive) (keeps : ∀ x d, (setLatch x d).enable = d.enable ∧
      (setLatch x d).setpoint = d.setpoint ∧ (setLatch x d).torqueLimit = d.torqueLimit) :
    b.Leads (b.testTrip c holds latched setLatch) := by
  unfold Bench.testTrip
  dsimp only
  have latch : ∀ d : Bench, d.Quiet (d.setDc (setLatch holds d.st.dc)) := fun d =>
    have ⟨enable, setpoint, limit⟩ := keeps holds d.st.dc
    .setDc_same d enable setpoint limit
  split
  · exact (b.leads_trip c).quiet (latch _)
  · exact (latch b).leads

/-- OVERSPEED with its latch (R99). -/
def Bench.speedTested (b : Bench) : Bench :=
  b.testTrip .overspeed (freshOver b.speed b.setup.tripSpeed) b.st.dc.latchSpeed
    fun x d => { d with latchSpeed := x }

/-- OVERTORQUE with its latch (R99). -/
def Bench.torqueTested (b : Bench) : Bench :=
  b.testTrip .overtorque (freshOver b.torque b.setup.tripTorque) b.st.dc.latchTorque
    fun x d => { d with latchTorque := x }

/-- The feedback run after the event (R100), with the enable that step 1 found (log entry 19). -/
def Bench.feedbackCounted (enabled : Bool) (b : Bench) : Bench :=
  b.setDc (b.st.dc.feedbackStep enabled b.speed.freshValue.isSome)

theorem Bench.trips_eq {b : Bench} (h : b.st.sc.state ≠ .idle) : b.trips =
    (let c := b.speedTested.torqueTested.feedbackCounted b.st.dc.enable
     if b.st.dc.enable ∧ c.speed.freshValue = none ∧ c.setup.feedbackTimeout ≤ c.st.dc.feedback
        ∧ c.st.dc.latchFeedback = false then c.raise .feedbackLost else c) := by
  simp only [Bench.trips, if_neg h]
  rfl

theorem Bench.leads_speedTested (b : Bench) : b.Leads b.speedTested :=
  b.leads_testTrip _ _ _ _ fun _ _ => ⟨rfl, rfl, rfl⟩

theorem Bench.leads_torqueTested (b : Bench) : b.Leads b.torqueTested :=
  b.leads_testTrip _ _ _ _ fun _ _ => ⟨rfl, rfl, rfl⟩

theorem Bench.leads_trips (b : Bench) : b.Leads b.trips := by
  by_cases idle : b.st.sc.state = .idle
  · simp only [Bench.trips, if_pos idle]
    exact .refl b
  · rw [Bench.trips_eq idle]
    have counted : b.Leads (b.speedTested.torqueTested.feedbackCounted b.st.dc.enable) :=
      (b.leads_speedTested.trans (Bench.leads_torqueTested _)).quiet (Bench.quiet_feedbackStep _ _ _)
    dsimp only
    split
    · exact counted.quiet (.raise _ _)
    · exact counted

theorem Bench.leads_feedbackLost (b : Bench) : b.Leads b.feedbackLost :=
  (b.leads_trip .feedbackLost).quiet (.setDc_same _ rfl rfl rfl)

theorem Bench.leads_speedDeviation (b : Bench) : b.Leads b.speedDeviation := by
  unfold Bench.speedDeviation
  split
  · dsimp only
    split
    · exact (((b.quiet_recordDefect _).trans (Bench.quiet_recordDefect _ _)).trans
        (Bench.quiet_writePoint _)).leads.trans (Bench.leads_endSegment _ _)
    · exact ((b.quiet_recordDefect _).trans (Bench.quiet_writePoint _)).leads.trans
        (Bench.leads_endSegment _ _)
  · exact .refl b

theorem Bench.leads_torqueLimit (b : Bench) : b.Leads b.torqueLimit := by
  unfold Bench.torqueLimit
  split
  · exact (b.quiet_recordDefect _).leads.trans (Bench.leads_endSegment _ _)
  · exact .refl b

theorem Bench.leads_rampDone (b : Bench) : b.Leads b.rampDone := by
  unfold Bench.rampDone
  split
  · exact b.leads_endSegment _
  · exact .refl b

theorem Bench.leads_speedNotReached (b : Bench) : b.Leads b.speedNotReached := by
  unfold Bench.speedNotReached
  split
  · exact (b.quiet_recordDefect _).leads.trans (Bench.leads_endSegment _ _)
  · exact .refl b

theorem Bench.leads_dwellDone (b : Bench) : b.Leads b.dwellDone := by
  unfold Bench.dwellDone
  split
  · exact b.leads_endSegment _
  · exact .refl b

theorem Bench.leads_leakWaitTimeout (b : Bench) : b.Leads b.leakWaitTimeout := by
  unfold Bench.leakWaitTimeout
  split
  · exact (b.quiet_fixLeak _ _ _).leads.trans (Bench.leads_endSegment _ _)
  · exact .refl b

theorem Bench.leads_stopComplete (b : Bench) : b.Leads b.stopComplete := by
  unfold Bench.stopComplete
  split
  next stopping => exact Bench.leads_closeRecord false (.inr (.inl stopping))
  · exact .refl b

theorem Bench.leads_stopTimeout (b : Bench) : b.Leads b.stopTimeout := by
  unfold Bench.stopTimeout
  split
  next stopping =>
    exact (b.quiet_disable.trans (Bench.quiet_recordDefect _ _)).leads.trans
      (Bench.leads_closeRecord false (.inr (.inl stopping)))
  · exact .refl b

theorem Bench.leads_finishPoint (b : Bench) : b.Leads b.finishPoint := by
  unfold Bench.finishPoint
  split
  · exact b.quiet_writePoint.leads.trans (Bench.leads_endSegment _ _)
  · exact .refl b

theorem Bench.leads_windowClose (b : Bench) (x : SampleSet) (d : Int) : b.Leads (b.windowClose x d) := by
  unfold Bench.windowClose
  split
  next w p pt _ _ point =>
    dsimp only
    split
    · have voided := b.quiet_voidWindow .speed (some (windowSpeed p.n w.ts))
      split
      · exact voided.leads
      · exact (voided.trans (Bench.quiet_testStart _ _ _)).leads
    · have counted := b.quiet_handOver w p pt (windowSpeed p.n w.ts) point
      split
      · exact counted.leads.trans (Bench.leads_finishPoint _)
      · split
        · exact (counted.trans (.raise _ _)).leads
        · exact (counted.trans (Bench.quiet_testStart _ _ _)).leads
  · exact .refl b

theorem Bench.leads_tellLeakDone (b : Bench) : b.Leads b.tellLeakDone := by
  unfold Bench.tellLeakDone
  split
  · split
    · exact b.leads_endSegment _
    · exact .refl b
  next finishing => exact Bench.leads_closeRecord false (.inl finishing)
  next stopping =>
    split
    · exact Bench.leads_closeRecord false (.inr (.inl stopping))
    · exact .refl b
  · exact .refl b

theorem Bench.leads_ventDone (b : Bench) : b.Leads b.ventDone :=
  b.quiet_leakDone.leads.trans (Bench.leads_tellLeakDone _)

theorem Bench.leads_ventTimeout (b : Bench) : b.Leads b.ventTimeout := by
  unfold Bench.ventTimeout
  split
  · exact ((b.quiet_leakDefect _ _).trans (Bench.quiet_leakDone _)).leads.trans
      (Bench.leads_tellLeakDone _)
  · exact .refl b

/-- A due step is made of moves. -/
theorem Bench.leads_perform (b : Bench) (e : StEvent) : b.Leads (b.perform e) := by
  cases e with
  | feedbackLost => exact b.leads_feedbackLost
  | speedDeviation => exact b.leads_speedDeviation
  | torqueLimit => exact b.leads_torqueLimit
  | rampDone => exact b.leads_rampDone
  | speedNotReached => exact b.leads_speedNotReached
  | dwellDone => exact b.leads_dwellDone
  | leakWaitTimeout => exact b.leads_leakWaitTimeout
  | runaway => exact b.leads_faultTest _
  | stopComplete => exact b.leads_stopComplete
  | stopTimeout => exact b.leads_stopTimeout
  | pulseEnd => exact (Bench.Quiet.setOu b (Output.Fits.endPulse b.setup)).leads
  | recoveryEnd => exact (Bench.Quiet.setOu b (Output.Fits.endRecovery b.setup)).leads
  | windowClose x d => exact b.leads_windowClose x d
  | slow => exact (b.quiet_voidWindow _ _).leads
  | listenCutOff => exact b.leads_finishPoint
  | listenTimeLimit => exact b.leads_finishPoint
  | fill => exact b.quiet_fill.leads
  | supplyWaitLimit => exact (b.quiet_fixLeak _ _ _).leads
  | settle => exact b.quiet_settlePhase.leads
  | grossLeak => exact b.quiet_grossLeak.leads
  | measure => exact b.quiet_measure.leads
  | startBlock => exact b.quiet_startBlock.leads
  | endBlock => exact b.quiet_endBlock.leads
  | disturbed => exact (b.quiet_fixLeak _ _ _).leads
  | ventDone => exact b.leads_ventDone
  | ventTimeout => exact b.leads_ventTimeout

/-- A piece of work is made of moves. -/
theorem Bench.leads_work (b : Bench) (t : Todo) : b.Leads (b.work t) := by
  cases t with
  | timers => exact b.quiet_timers.leads
  | outputs => exact b.quiet_outputWork.leads
  | absent => exact (b.quiet_voidWindow _ _).leads
  | gap => exact b.quiet_gapSignal.leads
  | sampleSet x => exact (b.quiet_sampleSet x).leads
  | trips => exact b.leads_trips
  | form => exact b.quiet_form.leads
  | supervise => exact b.quiet_supervise.leads
  | ready => exact b.quiet_makeReady.leads
  | stopTest => exact b.quiet_stopTest.leads
  | leakWork => exact b.quiet_leakWork.leads
  | steadyTest => exact b.quiet_steadyTest.leads
  | listenLimit => exact b.quiet_listenLimit.leads
  | stopLimit => exact b.quiet_stopLimit.leads
  | due e => exact .refl b

/-! ### The work of a station -/

theorem runWork_cons {t : Todo} (ht : ∀ e, t ≠ .due e) (ts : List Todo) (b : Bench) :
    runWork (t :: ts) b = ((b.setTodo []).work t).goOn ts := by
  cases t with
  | due e => exact absurd rfl (ht e)
  | _ => rfl

theorem leads_runWork (ts : List Todo) (b : Bench) : b.Leads (runWork ts b) := by
  induction ts generalizing b with
  | nil => exact (Bench.Quiet.setTodo b []).leads
  | cons t ts ih =>
    by_cases ht : ∃ e, t = .due e
    · obtain ⟨e, rfl⟩ := ht
      exact (Bench.Quiet.setTodo b _).leads
    · rw [runWork_cons (fun e he => ht ⟨e, he⟩)]
      have worked := (Bench.Quiet.setTodo b []).leads.trans (Bench.leads_work _ t)
      unfold Bench.goOn
      split
      · exact worked.trans (ih _)
      · exact worked.quiet (.setTodo _ _)

theorem Bench.leads_goOn (b : Bench) (ts : List Todo) : b.Leads (b.goOn ts) := by
  unfold Bench.goOn
  split
  · exact leads_runWork ts b
  · exact (Bench.Quiet.setTodo b _).leads

theorem Bench.leads_fire (b : Bench) (e : StEvent) (ts : List Todo) : b.Leads (b.fire e ts) :=
  ((Bench.Quiet.setTodo b []).leads.trans (Bench.leads_perform _ e)).trans (Bench.leads_goOn _ ts)

theorem leads_settleWork (n : Nat) (b : Bench) : b.Leads (settleWork n b) := by
  induction n generalizing b with
  | zero => exact .refl b
  | succ n ih =>
    unfold settleWork
    split
    · exact .refl b
    · exact (b.leads_fire _ _).trans (ih _)
    · exact (leads_runWork _ b).trans (ih _)

theorem Bench.leads_settle (b : Bench) : b.Leads b.settle := leads_settleWork _ b

/-! ### Requests within a station -/

/-- What follows the commit of an admission. -/
theorem Bench.leads_commit (b : Bench) (slot : Nat) (v : Variant) (mode : RunMode) (serial : List Byte) :
    (b.enrol slot v mode serial).Leads (b.commit slot v mode serial) := by
  have sc : (b.enrol slot v mode serial).st.sc =
      admitContext b.store.nextId slot v.recipe (b.lib.stopOnFail v.recipe) := by
    simp [Bench.enrol]
  have step : (b.enrol slot v mode serial).Stepping := by
    rw [Bench.Stepping, sc]
    exact .inl ⟨rfl, rfl⟩
  exact (Bench.leads_advance step _ _).trans (Bench.leads_settle _)

theorem Bench.leads_takeOn {b : Bench} (step : b.Stepping) : b.Leads b.takeOn := by
  unfold Bench.takeOn
  split
  · split
    · exact Flow.leads_run (Begun.next_from (Bench.beginSegment_from step _ _) _)
    · exact b.leads_faultTest _
  · have released : b.Quiet (b.setSc { b.st.sc with pauseRelease := true }) := .setSc b rfl
    exact released.leads.trans
      (Bench.leads_advance (b := b.setSc { b.st.sc with pauseRelease := true }) step _ _)

theorem Bench.leads_resume {b : Bench} (held : b.st.sc.state = .held) : b.Leads b.resume :=
  (Bench.leads_takeOn (.inr held)).trans (Bench.leads_settle _)

theorem Bench.leads_abort (b : Bench) : b.Leads b.abort := by
  unfold Bench.abort
  split
  next stopping => exact (Bench.Change.coast stopping).leads
  · exact b.leads_enterStopping _ _

theorem Bench.leads_forceOut (b : Bench) : b.Leads b.forceOut :=
  (b.leads_enterStopping _ _).next .release

/-- A bench whose test CELL_RESET has ended, before the record closes (R82). -/
def Bench.resetOver (b : Bench) : Bench :=
  (b.setDc b.st.dc.disable).abandonSegment.abortLeak.clearChain.releaseVariant

theorem Bench.releaseVariant_sc (b : Bench) :
    b.releaseVariant.st.sc = { b.st.sc with variantUse := false } := by
  unfold Bench.releaseVariant
  split <;> rfl

theorem Bench.resetOver_sc (b : Bench) : b.resetOver.st.sc =
    { b.st.sc with segment := none, chain := [], variantUse := false } := by
  simp only [Bench.resetOver, Bench.releaseVariant_sc, Bench.clearChain, Bench.setSc_sc, Bench.abortLeak,
    Bench.fixLeak_sc, Bench.abandonSegment_sc, Bench.setDc_sc]

theorem Bench.leads_resetTest (b : Bench) : b.Leads b.resetTest := by
  unfold Bench.resetTest
  split
  · exact .refl b
  · have ended : b.Leads b.resetOver :=
      (((b.quiet_disable.leads.trans (Bench.leads_abandonSegment _)).quiet
        (Bench.quiet_abortLeak _)).next .clear).next .release
    have marked : b.resetOver.Quiet
        (b.resetOver.setSc { b.resetOver.st.sc with stopReason := some .cellReset }) := .setSc _ rfl
    refine (ended.quiet marked).trans (Bench.leads_closeRecord true (.inr (.inr ?_)))
    simp [Bench.resetOver_sc]

end Sys2Proof.Machine
end

section
/-! SUPPORT. What a step can do to what the invariants speak of, said once: the moves of the machine. A move is
one of a station, or calm (it changes the ring side, the request queue, flags, and of the stations what no
invariant reads), or a write of tables, settings, reports or LINESTOP. -/

namespace Sys2Proof.Machine

/-! ### Calm moves -/

/-- The ring side keeps its places and counters (R3, R18, R22). -/
def State.RingFits (s : State) : Prop :=
  s.rp.buffer.length ≤ 4 ∧ s.queue.length ≤ 4 ∧
  Fits s.rp.checkErrors ∧ Fits s.rp.misdirected ∧ Fits s.rp.returned ∧ Fits s.rp.forwardDrops ∧
  Fits s.rp.overruns ∧ Fits s.formatErrors ∧ Fits s.tb.slips ∧ Fits s.tb.flywheels ∧
  ∀ h ∈ s.heads, h.CountersFit

theorem State.bounded_iff (s : State) :
    s.Bounded ↔ s.RingFits ∧ ∀ i, (s.stations.get i).ou.Fits := by
  simp only [State.Bounded, State.RingFits, Output.Fits, and_assoc]

/-- `u` differs from `t` in nothing that an invariant reads, but for trigger counts that fit. -/
structure Station.Calm (t u : Station) : Prop where
  sc : u.sc = t.sc
  dc : u.dc = t.dc
  setInUse : u.setInUse = t.setInUse
  outputs : t.ou.Fits → u.ou.Fits

theorem Station.Calm.refl (t : Station) : t.Calm t := ⟨rfl, rfl, rfl, id⟩

/-- `t` differs from `s` in nothing that an invariant reads, but for counts that fit. -/
structure State.Calm (s t : State) : Prop where
  lib : t.lib = s.lib
  setups : t.setups = s.setups
  cell : t.cell = s.cell
  store : t.store = s.store
  lineStop : t.lineStop = s.lineStop
  stations : ∀ i, (s.stations.get i).Calm (t.stations.get i)
  ring : s.RingFits → t.RingFits

theorem State.Calm.refl (s : State) : s.Calm s :=
  ⟨rfl, rfl, rfl, rfl, rfl, fun _ => .refl _, id⟩

/-- A change of the ring side and the request queue. -/
theorem State.Calm.ofRing {s t : State} (h : s.RingFits → t.RingFits)
    (same : t = { s with
      pending := t.pending, rp := t.rp, tb := t.tb, heads := t.heads, formatErrors := t.formatErrors
      supplyOk := t.supplyOk, queue := t.queue, flags := t.flags } := by rfl) : s.Calm t :=
  ⟨by rw [same], by rw [same], by rw [same], by rw [same], by rw [same],
    fun i => by rw [same]; exact .refl _, h⟩

/-! ### The moves -/

/-- A table write that leaves the entry `e` with in-use count 0, or absent, and every other count as it was. -/
structure Clears (e : Entry) (w : Library → Library) : Prop where
  zero : ∀ l, (w l).inUse e = 0
  others : ∀ l e', e' ≠ e → (w l).inUse e' = l.inUse e'

/-- One move of the machine. -/
inductive State.Move (s : State) : State → Prop
  | station (i : StNo) {c : Bench} (h : (s.bench i).Move c) : s.Move (s.putBench i c)
  | calm {t : State} (h : s.Calm t) : s.Move t
  /-- SET_STATION: run-bound fields while IDLE alone (R29). -/
  | setup (i : StNo) (mask : Nat) (body : List Byte)
      (h : mask % 8192 = 0 ∨ (s.stations.get i).sc.state = .idle) : s.Move (s.writeSetup i mask body)
  /-- SET_CELL: the absolute max speed while every station is IDLE alone (R50). -/
  | cell (x : CellSettings) (h : x.absMaxSpeed = s.cell.absMaxSpeed ∨ s.allIdle = true) :
      s.Move { s with cell := x }
  /-- A table write to an entry not in use (R31). -/
  | table (e : Entry) (w : Library → Library) (free : s.lib.inUse e = 0) (h : Clears e w) :
      s.Move { s with lib := w s.lib }
  /-- A forced table write (R32, R56). -/
  | forced (e : Entry) (w : Library → Library) (h : Clears e w) :
      s.Move { (forceUsers e s).1 with lib := w (forceUsers e s).1.lib }
  /-- A later part of an angle table (R45). -/
  | part (k : Nat) (x y : AngleTable) (there : entryAt s.lib.angles k = some x) (same : y.inUse = x.inUse) :
      s.Move { s with lib := { s.lib with angles := s.lib.angles.set k (some y) } }
  /-- RELEASE_REPORT (R165). -/
  | release (id : Nat) : s.Move { s with store := s.store.release id }
  /-- LINESTOP is deasserted while no safety stop is in progress (R175, R176). -/
  | clearLine (h : s.safetyStop = false) : s.Move { s with lineStop := false }
  | reset (straps : BitVec 5) : s.Move
      { State.reset with rp := RingPort.initial (addressOf straps), pending := s.pending }

/-- `t` is what moves of the machine make of `s`. -/
def State.Leads : State → State → Prop := Relation.ReflTransGen State.Move

namespace State.Leads

theorem refl (s : State) : s.Leads s := Relation.ReflTransGen.refl

theorem trans {s t u : State} (h : s.Leads t) (k : t.Leads u) : s.Leads u :=
  Relation.ReflTransGen.trans h k

theorem next {s t u : State} (h : s.Leads t) (k : t.Move u) : s.Leads u :=
  Relation.ReflTransGen.tail h k

theorem calm {s t u : State} (h : s.Leads t) (k : t.Calm u) : s.Leads u := h.next (.calm k)

/-- What every move keeps, a step that moves make keeps. -/
theorem keeps {P : State → Prop} (move : ∀ s t : State, P s → s.Move t → P t) {s t : State}
    (h : s.Leads t) (hs : P s) : P t := by
  induction h with
  | refl => exact hs
  | tail _ last ih => exact move _ _ ih last

end State.Leads

theorem State.Move.leads {s t : State} (h : s.Move t) : s.Leads t := Relation.ReflTransGen.single h

theorem State.Calm.leads {s t : State} (h : s.Calm t) : s.Leads t := (State.Move.calm h).leads

/-! ### A station's moves within the machine -/

theorem Bench.Move.around {b c : Bench} (h : b.Move c) : c.around = b.around := by
  cases h with
  | enrol => simp [Bench.enrol]
  | change h =>
    cases h with
    | quiet h => exact h.around
    | segment | clear | release | close => simp
    | stop | coast | alarm | hold | wait | take | push | swap | pop | listen => rfl

theorem Bench.Leads.around {b c : Bench} (h : b.Leads c) : c.around = b.around := by
  induction h with
  | refl => rfl
  | tail _ last ih => exact (Bench.Move.change last).around.trans ih

/-- A bench put back is the bench of its station, when what surrounds it is the machine's. -/
theorem State.putBench_bench_self {s : State} {i : StNo} {b : Bench}
    (h : b.around = (s.bench i).around) : (s.putBench i b).bench i = b := by
  obtain ⟨me, now, heads, supplyOk, setup, cell⟩ := Bench.around_eq h
  cases b
  simp_all [State.bench]

@[simp] theorem State.putBench_putBench (s : State) (i : StNo) (b c : Bench) :
    (s.putBench i b).putBench i c = s.putBench i c := by
  simp [State.putBench]

theorem State.leads_putBench {s : State} {i : StNo} {c : Bench} (h : (s.bench i).Leads c) :
    s.Leads (s.putBench i c) := by
  induction h with
  | refl => rw [State.putBench_bench]; exact .refl s
  | tail first last ih =>
    rw [← State.putBench_putBench s i _ _]
    refine ih.next (.station i ?_)
    rw [State.putBench_bench_self (Bench.Leads.around first)]
    exact .change last

theorem State.leads_onStation (s : State) (i : StNo) {f : Bench → Bench}
    (h : (s.bench i).Leads (f (s.bench i))) : s.Leads (s.onStation i f) := State.leads_putBench h

theorem State.leads_commit (s : State) {i : StNo} {slot : Nat} {v : Variant} {e : Recipe} (mode : RunMode)
    (serial : List Byte) (idle : (s.stations.get i).sc.state = .idle)
    (variant : entryAt s.lib.variants slot = some v) (recipe : entryAt s.lib.recipes v.recipe = some e)
    (free : (firstFree s.store.slots).isSome = true) :
    s.Leads (s.onStation i fun b => b.commit slot v mode serial) := by
  have move := Bench.Move.enrol (b := s.bench i) slot v e mode serial idle variant recipe free
  have enrolled : s.Leads (s.putBench i ((s.bench i).enrol slot v mode serial)) :=
    (State.Move.station i move).leads
  rw [State.onStation, ← State.putBench_putBench s i ((s.bench i).enrol slot v mode serial)]
  refine enrolled.trans (State.leads_putBench ?_)
  rw [State.putBench_bench_self move.around]
  exact (s.bench i).leads_commit slot v mode serial

theorem State.leads_give (s : State) (i : StNo) (ts : List Todo) : s.Leads (s.give i ts) :=
  s.leads_onStation i (leads_runWork _ _)

theorem State.leads_giveVibration (s : State) (node : Nat) (ts : List Todo) :
    s.Leads (s.giveVibration node ts) := by
  unfold State.giveVibration
  refine List.foldlRecOn (motive := fun t : State => s.Leads t) allStations _ (.refl s) ?_
  intro t ht i _
  split
  · exact ht.trans (t.leads_give i ts)
  · exact ht

/-! ### The ring side is calm -/

theorem satAdd_fits (n d : Nat) : Fits (satAdd Config.counterTop n d) := satAdd_le _ _ _

theorem countUp_fits (n : Nat) : Fits (countUp n) := countUp_le n

theorem State.calm_sendOwn (s : State) : s.Calm s.sendOwn := by
  unfold State.sendOwn
  split
  · split
    · exact .ofRing id
    · split
      · split
        · refine .ofRing fun h => ?_
          simpa [State.RingFits, State.send] using h
        · exact .refl s
      · exact .refl s
    · exact .refl s
  · exact .refl s

theorem State.calm_pump (s : State) : s.Calm s.pump := by
  unfold State.pump
  split
  · exact .refl s
  · split
    · exact s.calm_sendOwn
    · split
      next hb =>
        refine .ofRing fun h => ?_
        have short : _ ≤ 4 := hb ▸ h.1
        exact ⟨Nat.le_of_succ_le short, h.2⟩
      · exact .refl s

theorem State.calm_forward (f : Frame) (s : State) : s.Calm (s.forward f) := by
  unfold State.forward
  split
  · exact .ofRing id
  · split
    next free =>
      refine .ofRing fun h => ⟨?_, h.2⟩
      simpa [Config.bufferSize] using Nat.succ_le_of_lt free
    · refine .ofRing fun h => ?_
      obtain ⟨buffer, queue, check, mis, ret, -, rest⟩ := h
      exact ⟨buffer, queue, check, mis, ret, countUp_fits _, rest⟩

theorem State.calm_offer (f : Frame) (s : State) : s.Calm (s.offer f) := by
  unfold State.offer
  split
  next free =>
    refine .ofRing fun h => ⟨h.1, ?_, h.2.2⟩
    simpa [Config.queueSize] using Nat.succ_le_of_lt free
  · exact .ofRing id

theorem State.calm_takeReplies (w : Window) (s : State) : s.Calm (s.takeReplies w) := .ofRing id

theorem State.Calm.trans {s t u : State} (h : s.Calm t) (k : t.Calm u) : s.Calm u where
  lib := k.lib.trans h.lib
  setups := k.setups.trans h.setups
  cell := k.cell.trans h.cell
  store := k.store.trans h.store
  lineStop := k.lineStop.trans h.lineStop
  stations i :=
    ⟨(k.stations i).sc.trans (h.stations i).sc, (k.stations i).dc.trans (h.stations i).dc,
      (k.stations i).setInUse.trans (h.stations i).setInUse,
      (k.stations i).outputs ∘ (h.stations i).outputs⟩
  ring := k.ring ∘ h.ring

theorem State.calm_openWindow (s : State) : s.Calm s.openWindow := by
  have opened : s.Calm { s with rp := { s.rp with
      window := some { setpoints := s.setpointList, replies := none }
      overruns := satAdd Config.counterTop s.rp.overruns s.rp.unsentSetpoints } } := by
    refine .ofRing fun h => ?_
    obtain ⟨buffer, queue, check, mis, ret, drops, -, rest⟩ := h
    exact ⟨buffer, queue, check, mis, ret, drops, satAdd_fits _ _, rest⟩
  unfold State.openWindow
  dsimp only
  split
  · exact opened.trans (State.calm_takeReplies _ _)
  · exact opened

theorem State.calm_afterSending (what : SentKind) (s : State) : s.Calm (s.afterSending what) := by
  cases what with
  | forwarded => exact .refl s
  | setpoint =>
    simp only [State.afterSending]
    split
    · split
      · exact s.calm_takeReplies _
      · exact .refl s
    · exact .refl s
  | reply =>
    have dropped : s.Calm { s with queue := dropSending s.queue } :=
      .ofRing fun h => ⟨h.1, (dropSending_length_le _).trans h.2.1, h.2.2⟩
    simp only [State.afterSending]
    split
    · split
      · exact dropped.trans (.ofRing id)
      · exact dropped
    · exact dropped

theorem State.calm_endTransmission (s : State) : s.Calm s.endTransmission := by
  unfold State.endTransmission
  split
  next t _ =>
    have freed : s.Calm { s with rp := { s.rp with tx := none } } := .ofRing id
    exact (freed.trans (State.calm_afterSending t.what _)).trans (State.calm_pump _)
  · exact .refl s

/-! ### Heads -/

/-- The head table with every counter fitting. -/
def HeadsFit (hs : List HeadEntry) : Prop := ∀ h ∈ hs, h.CountersFit

theorem State.Calm.setHeads (s : State) {hs : List HeadEntry} (h : HeadsFit s.heads → HeadsFit hs) :
    s.Calm { s with heads := hs } := by
  refine .ofRing fun fits => ?_
  obtain ⟨buffer, queue, check, mis, ret, drops, over_, format, slips, wheels, heads⟩ := fits
  exact ⟨buffer, queue, check, mis, ret, drops, over_, format, slips, wheels, h heads⟩

theorem HeadsFit.map {hs : List HeadEntry} {f : HeadEntry → HeadEntry}
    (hf : ∀ h, h.CountersFit → (f h).CountersFit) (fits : HeadsFit hs) : HeadsFit (hs.map f) := by
  intro h hmem
  obtain ⟨g, hg, rfl⟩ := List.mem_map.1 hmem
  exact hf g (fits g hg)

theorem HeadsFit.put {hs : List HeadEntry} {h : HeadEntry} (node : Nat) (hh : h.CountersFit)
    (fits : HeadsFit hs) : HeadsFit (putHead hs node h) := by
  unfold putHead
  split
  · exact fits
  · intro g hg
    rcases List.mem_or_eq_of_mem_set hg with hg | rfl
    · exact fits g hg
    · exact hh

theorem mem_of_headOf {hs : List HeadEntry} {node : Nat} {h : HeadEntry} (hn : headOf hs node = some h) :
    h ∈ hs := by
  unfold headOf at hn
  split at hn
  · cases hn
  · exact List.mem_of_getElem? hn

/-- A node's entry replaced by one made of it with fitting counters. -/
theorem State.calm_putHead {s : State} {node : Nat} {h : HeadEntry} (hn : headOf s.heads node = some h)
    {g : HeadEntry} (hg : h.CountersFit → g.CountersFit) :
    s.Calm { s with heads := putHead s.heads node g } :=
  .setHeads s fun fits => fits.put node (hg (fits h (mem_of_headOf hn)))

theorem State.Calm.setFlags {s t : State} (h : s.Calm t) (f : Flags) : s.Calm { t with flags := f } :=
  h.trans (.ofRing id)

theorem State.leads_loseSync (s : State) (node : Nat) : s.Leads (s.loseSync node) := by
  unfold State.loseSync
  split
  next h hn =>
    have calm : s.Calm { s with heads := putHead s.heads node h.unsync } :=
      State.calm_putHead hn fun fits => ⟨fits.1, fits.2.1, countUp_fits _⟩
    exact calm.leads.trans (State.leads_giveVibration _ _ _)
  · exact .refl s

theorem State.leads_track {s : State} {f : Frame} {h : HeadEntry}
    (hn : headOf s.heads f.src.toNat = some h) : s.Leads (s.track f h) := by
  have used : s.Calm { s with heads := putHead s.heads f.src.toNat (h.use f) } :=
    State.calm_putHead hn fun fits => fits
  unfold State.track
  dsimp only
  split
  · exact (used.setFlags _).leads.trans (State.leads_giveVibration _ _ _)
  · split
    · exact used.leads.trans (State.leads_giveVibration _ _ _)
    · split
      · have gap : s.Calm { s with
            heads := putHead s.heads f.src.toNat ((h.gapBy (h.ahead f.seq)).use f) } :=
          State.calm_putHead hn fun fits => ⟨satAdd_fits _ _, fits.2⟩
        exact gap.leads.trans (State.leads_giveVibration _ _ _)
      · exact (State.calm_putHead (g := h.outOfTurn) hn fun fits =>
          ⟨fits.1, countUp_fits _, fits.2.2⟩).leads

theorem State.calm_formatErrors (s : State) :
    s.Calm { s with formatErrors := countUp s.formatErrors } := by
  refine .ofRing fun h => ?_
  obtain ⟨buffer, queue, check, mis, ret, drops, late, -, rest⟩ := h
  exact ⟨buffer, queue, check, mis, ret, drops, late, countUp_fits _, rest⟩

theorem State.leads_sampleIntake (f : Frame) (s : State) : s.Leads (s.sampleIntake f) := by
  unfold State.sampleIntake
  split
  next hn =>
    split
    · exact State.leads_track hn
    · exact s.calm_formatErrors.leads
  · exact s.calm_formatErrors.leads

/-! ### The work that has fallen due -/

theorem State.desk_leads {s : State} {i : StNo} {b : Bench} (h : (s.desk i).Leads b) :
    (s.bench i).Leads b := (Bench.Quiet.setTodo (s.bench i) []).leads.trans h

theorem State.leads_resumeWith {s : State} {i : StNo} {b : Bench} (h : (s.desk i).Leads b)
    (rest : List Todo) : s.Leads (s.resumeWith i rest b) :=
  (State.leads_putBench ((State.desk_leads h).trans (b.leads_goOn rest))).calm (State.calm_pump _)

theorem State.leads_fireAt (s : State) (i : StNo) (e : StEvent) (rest : List Todo) :
    s.Leads (s.fireAt i e rest) := State.leads_resumeWith ((s.desk i).leads_perform e) rest

theorem State.leads_fireDue (s : State) (i : StNo) (kind : StEvent → Bool) :
    s.Leads (s.fireDue i kind) := by
  obtain ⟨e, rest, -, -, h⟩ | h := s.fireDue_cases i kind
  · rw [h]; exact s.leads_fireAt i e rest
  · rw [h]; exact .refl s

theorem State.leads_settleStation (s : State) (i : StNo) : s.Leads (s.settleStation i) :=
  State.settleAt_keeps (P := fun t => s.Leads t)
    (fun _ ht => ht.trans (State.leads_resumeWith (.refl _) _))
    (fun t e rest _ ht => ht.trans (t.leads_fireAt i e rest)) _ s (.refl s)

theorem State.leads_settleStations (s : State) : s.Leads s.settleStations :=
  (((s.leads_settleStation 0).trans (State.leads_settleStation _ 1)).trans
    (State.leads_settleStation _ 2)).trans (State.leads_settleStation _ 3)

theorem State.leads_loseHead (node : Nat) (s : State) : s.Leads (s.loseHead node) :=
  (s.leads_settleStations.trans (State.leads_loseSync _ node)).calm (State.calm_pump _)

theorem State.leads_settleHead (s : State) (node : Nat) : s.Leads (s.settleHead node) := by
  obtain ⟨_, -, -, h⟩ | ⟨-, h⟩ := s.settleHead_cases node
  · rw [h]; exact s.leads_loseHead node
  · rw [h]; exact .refl s

theorem State.leads_settle (s : State) : s.Leads s.settle := by
  have heads : s.Leads (nodes.foldl State.settleHead s.settleStations) := by
    refine List.foldlRecOn (motive := fun t : State => s.Leads t) nodes _ s.leads_settleStations ?_
    exact fun t ht node _ => ht.trans (t.leads_settleHead node)
  exact (heads.trans (State.leads_settleStations _)).calm (State.calm_pump _)

/-! ### Ring cycle events and received frames -/

theorem State.leads_ringCycle (s : State) : s.Leads s.ringCycle := by
  let closed : State := { s.openWindow with
    heads := s.openWindow.heads.map HeadEntry.closeCycle
    stations := ⟨s.openWindow.stations.q0.clearReady, s.openWindow.stations.q1.clearReady,
      s.openWindow.stations.q2.clearReady, s.openWindow.stations.q3.clearReady⟩ }
  have heads := State.Calm.setHeads s.openWindow
    (hs := s.openWindow.heads.map HeadEntry.closeCycle) (HeadsFit.map fun _ h => h)
  have calm : s.openWindow.Calm closed := by
    refine ⟨rfl, rfl, rfl, rfl, rfl, fun i => ?_, heads.ring⟩
    fin_cases i <;> exact ⟨rfl, rfl, rfl, id⟩
  have supplied : closed.Calm { closed with supplyOk := closed.supplyState } := .ofRing id
  have start := ((s.calm_openWindow.trans calm).trans supplied).leads
  exact ((((start.trans (State.leads_give _ 0 _)).trans (State.leads_give _ 1 _)).trans
    (State.leads_give _ 2 _)).trans (State.leads_give _ 3 _)).calm (State.calm_pump _)

theorem State.calm_timebase (s : State) {t : Timebase}
    (h : Fits s.tb.slips → Fits s.tb.flywheels → Fits t.slips ∧ Fits t.flywheels) :
    s.Calm { s with tb := t } := by
  refine .ofRing fun fits => ?_
  obtain ⟨buffer, queue, check, mis, ret, drops, late, format, slips, wheels, heads⟩ := fits
  exact ⟨buffer, queue, check, mis, ret, drops, late, format, (h slips wheels).1, (h slips wheels).2,
    heads⟩

/-- TB takes a ring cycle event of a machine that moves have led to. -/
theorem State.Leads.ringCycle {s z : State} (h : s.Leads z) {t : Timebase}
    (fits : Fits z.tb.slips → Fits z.tb.flywheels → Fits t.slips ∧ Fits t.flywheels) :
    s.Leads (State.ringCycle { z with tb := t }) :=
  (h.calm (State.calm_timebase z fits)).trans (State.leads_ringCycle _)

theorem Timebase.take_fits (n : Word) {t : Timebase} (slips : Fits t.slips) : Fits (t.take n).slips := by
  simp only [Timebase.take]
  split
  · exact countUp_fits _
  · exact slips

theorem State.leads_cycleFrame (f : Frame) (s : State) : s.Leads (s.cycleFrame f) := by
  have settled := s.leads_settle
  unfold State.cycleFrame
  generalize s.settle = z at settled ⊢
  split
  · exact settled.ringCycle fun slips wheels => ⟨Timebase.take_fits _ slips, wheels⟩
  · exact .refl s

theorem State.leads_receive (f : Frame) (s : State) : s.Leads (s.receive f) := by
  unfold State.receive
  split
  · refine (State.Calm.ofRing fun h => ?_).leads
    obtain ⟨buffer, queue, -, rest⟩ := h
    exact ⟨buffer, queue, countUp_fits _, rest⟩
  · exact (s.calm_forward f).leads
  · exact (s.calm_offer f).leads
  · refine (State.Calm.ofRing fun h => ?_).leads
    obtain ⟨buffer, queue, check, -, rest⟩ := h
    exact ⟨buffer, queue, check, countUp_fits _, rest⟩
  · refine (State.Calm.ofRing fun h => ?_).leads
    obtain ⟨buffer, queue, check, mis, -, rest⟩ := h
    exact ⟨buffer, queue, check, mis, countUp_fits _, rest⟩
  · exact (s.calm_forward f).leads.trans (State.leads_cycleFrame f _)
  · exact (((s.calm_forward f).leads.trans (State.leads_settle _)).trans
      (State.leads_sampleIntake f _)).calm (State.calm_pump _)
  · exact (s.calm_forward f).leads

theorem State.leads_flywheel (s : State) :
    s.Leads (State.ringCycle { s.settle with tb := s.settle.tb.expire }) := by
  have settled := s.leads_settle
  generalize s.settle = z at settled ⊢
  exact settled.ringCycle fun slips _ => ⟨slips, countUp_fits _⟩

end Sys2Proof.Machine
end

section
/-! SUPPORT. Every command, and so every step, is made of moves of the machine. -/

namespace Sys2Proof.Machine

/-! ### Table writes -/

theorem entryAt_set_self {α : Type} (t : List (Option α)) (k : Nat) (o : Option α) :
    entryAt (t.set k o) k = if k < t.length then o else none := by
  unfold entryAt
  rw [List.getElem?_set_self']
  by_cases h : k < t.length
  · simp [h]
  · simp [h]

theorem entryAt_set_ne {α : Type} (t : List (Option α)) {j k : Nat} (h : j ≠ k) (o : Option α) :
    entryAt (t.set k o) j = entryAt t j := by
  unfold entryAt
  rw [List.getElem?_set_ne (Ne.symm h)]

/-- A count read of a slot written with an entry not in use, or made absent, is 0. -/
theorem count_set_self {α : Type} (f : α → Nat) (t : List (Option α)) (k : Nat) (o : Option α)
    (h : ∀ x, o = some x → f x = 0) : ((entryAt (t.set k o) k).map f).getD 0 = 0 := by
  rw [entryAt_set_self]
  split
  · cases o with
    | none => rfl
    | some x => exact h x rfl
  · rfl

theorem clears_variants (k : Nat) (o : Option Variant) (h : ∀ x, o = some x → x.inUse = 0) :
    Clears (.variant k) fun l => { l with variants := l.variants.set k o } where
  zero l := count_set_self Variant.inUse l.variants k o h
  others l e' ne := by
    cases e' with
    | variant j => simp [Library.inUse, entryAt_set_ne _ (fun h => ne (congrArg Entry.variant h))]
    | _ => rfl

theorem clears_recipes (k : Nat) (o : Option Recipe) (h : ∀ x, o = some x → x.inUse = 0) :
    Clears (.recipe k) fun l => { l with recipes := l.recipes.set k o } where
  zero l := count_set_self Recipe.inUse l.recipes k o h
  others l e' ne := by
    cases e' with
    | recipe j => simp [Library.inUse, entryAt_set_ne _ (fun h => ne (congrArg Entry.recipe h))]
    | _ => rfl

theorem clears_limits (k : Nat) (o : Option LimitSet) (h : ∀ x, o = some x → x.inUse = 0) :
    Clears (.limits k) fun l => { l with limits := l.limits.set k o } where
  zero l := count_set_self LimitSet.inUse l.limits k o h
  others l e' ne := by
    cases e' with
    | limits j => simp [Library.inUse, entryAt_set_ne _ (fun h => ne (congrArg Entry.limits h))]
    | _ => rfl

theorem clears_angles (k : Nat) (o : Option AngleTable) (h : ∀ x, o = some x → x.inUse = 0) :
    Clears (.angle k) fun l => { l with angles := l.angles.set k o } where
  zero l := count_set_self AngleTable.inUse l.angles k o h
  others l e' ne := by
    cases e' with
    | angle j => simp [Library.inUse, entryAt_set_ne _ (fun h => ne (congrArg Entry.angle h))]
    | _ => rfl

theorem clears_delete (e : Entry) : Clears e fun l => l.delete e := by
  cases e with
  | variant k => exact clears_variants k none (by simp)
  | recipe k => exact clears_recipes k none (by simp)
  | limits k => exact clears_limits k none (by simp)
  | angle k => exact clears_angles k none (by simp)

theorem State.leads_write {e : Entry} {w : Library → Library} (h : Clears e w) (force : Bool)
    (c : ReplyCode) (s : State) : s.Leads (s.write e force c w).state := by
  unfold State.write
  split
  next free => exact (State.Move.table e w free h).leads
  · split
    · exact (State.Move.forced e w h).leads
    · exact .refl s

/-! ### The effects of the requests -/

/-- The effects of a request are made of moves. -/
def LeadsOn (op : Request → State → Answer) : Prop :=
  ∀ (r : Request) (s : State), s.Leads (op r s).state

theorem leads_onNamed {r : Request} {s : State} {f : StNo → Answer} (h : ∀ i, s.Leads (f i).state) :
    s.Leads (onNamed r s f).state := by
  unfold onNamed
  split
  · exact h _
  · exact .refl s

theorem opLoadVariant_leads : LeadsOn opLoadVariant := by
  intro r s
  unfold opLoadVariant
  repeat' split
  case h_2 => exact State.leads_write (clears_variants _ _ (by rintro _ ⟨⟩; rfl)) _ _ s
  all_goals exact .refl s

theorem opLoadRecipe_leads : LeadsOn opLoadRecipe := by
  intro r s
  unfold opLoadRecipe
  split
  · exact .refl s
  · split
    · exact .refl s
    · split
      · split
        · exact State.leads_write (clears_recipes _ _ (by rintro _ ⟨⟩; rfl)) _ _ s
        · exact .refl s
      · exact .refl s

theorem opLoadLimits_leads : LeadsOn opLoadLimits := by
  intro r s
  unfold opLoadLimits
  repeat' split
  case isFalse.isFalse.isFalse.isFalse.isFalse =>
    exact State.leads_write (clears_limits _ _ (by rintro _ ⟨⟩; rfl)) _ _ s
  all_goals exact .refl s

theorem loadNext_leads (r : Request) (s : State) : s.Leads (loadNext r s).state := by
  unfold loadNext
  split
  next t ht =>
    split
    · exact (State.Move.part _ t (angleTableOf t.e _ t.inUse) ht rfl).leads
    · exact .refl s
  · exact .refl s

theorem opLoadAngle_leads : LeadsOn opLoadAngle := by
  intro r s
  unfold opLoadAngle
  split
  · exact .refl s
  · split
    · exact .refl s
    · split
      · exact .refl s
      · split
        · exact .refl s
        · split
          · exact State.leads_write (clears_angles _ _ (by rintro _ ⟨⟩; rfl)) _ _ s
          · exact loadNext_leads r s

theorem opDeleteEntry_leads : LeadsOn opDeleteEntry := by
  intro r s
  unfold opDeleteEntry
  split
  · exact .refl s
  · exact State.leads_write (clears_delete _) _ _ s

theorem opReadEntry_leads : LeadsOn opReadEntry := by
  intro r s
  unfold opReadEntry
  repeat' split
  all_goals exact .refl s

theorem opSetStation_leads : LeadsOn opSetStation := by
  refine fun r s => leads_onNamed fun i => ?_
  dsimp only
  split
  · exact .refl s
  · split
    · exact .refl s
    · split
      · exact .refl s
      next free =>
        refine (State.Move.setup i _ r.body ?_).leads
        by_cases h : u32At r.body 1 % 8192 = 0
        · exact .inl h
        · exact .inr (not_not.1 fun busy => free ⟨h, busy⟩)

theorem fAbsMax_unmarked {mask : Nat} (body : List Byte) (n : Nat) (h : bitSet mask 4 = false) :
    fAbsMax.write mask body n = n := by
  simp [Numeric.write, fAbsMax, h]

theorem opSetCell_leads : LeadsOn opSetCell := by
  intro r s
  unfold opSetCell
  split
  · exact .refl s
  · split
    · exact .refl s
    · split
      · exact .refl s
      next free =>
        refine (State.Move.cell _ ?_).leads
        cases h : bitSet (byteAt r.body 0) 4 with
        | false => exact .inl (fAbsMax_unmarked r.body _ h)
        | true => exact .inr (by simpa [h] using free)

theorem State.calm_clearCounters (s : State) : s.Calm s.clearCounters := by
  refine ⟨rfl, rfl, rfl, rfl, rfl, fun i => ?_, fun h => ?_⟩
  · fin_cases i <;> exact ⟨rfl, rfl, rfl, fun h => ⟨Nat.zero_le _, h.2⟩⟩
  · obtain ⟨buffer, queue, -⟩ := h
    refine ⟨buffer, queue, Nat.zero_le _, Nat.zero_le _, Nat.zero_le _, Nat.zero_le _, Nat.zero_le _,
      Nat.zero_le _, Nat.zero_le _, Nat.zero_le _, fun h hmem => ?_⟩
    obtain ⟨g, -, rfl⟩ := List.mem_map.1 hmem
    exact ⟨Nat.zero_le _, Nat.zero_le _, Nat.zero_le _⟩

theorem opReadCounters_leads : LeadsOn opReadCounters := by
  intro r s
  unfold opReadCounters
  split
  · simp only [report_state]
    split
    · exact s.calm_clearCounters.leads
    · exact .refl s
  · exact .refl s

/-- What the checks 4 to 8 of an admission have found (R59). -/
theorem State.admission_ok {s : State} {i : StNo} {code k : Nat} {v : Variant}
    (h : s.admission i code = .ok (k, v)) : entryAt s.lib.variants k = some v ∧
      (∃ e, entryAt s.lib.recipes v.recipe = some e) ∧ (firstFree s.store.slots).isSome = true := by
  unfold State.admission at h
  split at h
  · cases h
  · split at h
    · cases h
    · split at h
      · cases h
      next hv =>
        split at h
        · cases h
        next hr =>
          split at h
          · cases h
          · split at h
            · cases h
            next hf =>
              cases h
              exact ⟨hv, Option.isNone_of_not_isNone hr, by simpa [Option.isSome_iff_ne_none] using hf⟩

theorem opAdmit_leads : LeadsOn opAdmit := by
  intro r s
  unfold opAdmit
  split
  · exact .refl s
  · refine leads_onNamed fun i => ?_
    split
    · exact .refl s
    · split
      · exact .refl s
      next idle =>
        split
        · exact .refl s
        next k v hok =>
          obtain ⟨variant, ⟨e, recipe⟩, free⟩ := State.admission_ok hok
          exact s.leads_commit _ _ (not_not.1 idle) variant recipe free

theorem opSetRunMode_leads : LeadsOn opSetRunMode := by
  refine fun r s => leads_onNamed fun i => ?_
  split
  · exact .refl s
  · split
    · exact .refl s
    · exact s.leads_onStation i (f := fun b => b.setMode _) (Bench.Quiet.setMode _ _).leads

theorem opResume_leads : LeadsOn opResume := by
  refine fun r s => leads_onNamed fun i => ?_
  split
  next held => exact s.leads_onStation i (Bench.leads_resume held)
  · exact .refl s

theorem opAbort_leads : LeadsOn opAbort := by
  refine fun r s => leads_onNamed fun i => ?_
  split
  · exact .refl s
  · exact s.leads_onStation i (Bench.leads_abort _)

theorem opReadReport_leads : LeadsOn opReadReport := by
  intro r s
  unfold opReadReport
  repeat' split
  all_goals exact .refl s

theorem opReleaseReport_leads : LeadsOn opReleaseReport := by
  intro r s
  unfold opReleaseReport
  split
  · exact .refl s
  · exact (State.Move.release _).leads

theorem opClearReject_leads : LeadsOn opClearReject :=
  fun _ s => leads_onNamed fun i =>
    s.leads_onStation i (f := fun b => b.setOu (b.st.ou.clearReject b.setup))
      (Bench.Quiet.setOu _ (Output.Fits.clearReject _)).leads

theorem opClearLineStop_leads : LeadsOn opClearLineStop := by
  intro r s
  unfold opClearLineStop
  split
  · exact .refl s
  next free => exact (State.Move.clearLine (by simpa using free)).leads

/-! ### CELL_RESET -/

theorem State.leads_endTests (s : State) : s.Leads s.endTests :=
  (((s.leads_onStation 0 (Bench.leads_resetTest _)).trans
    (State.leads_onStation _ 1 (Bench.leads_resetTest _))).trans
    (State.leads_onStation _ 2 (Bench.leads_resetTest _))).trans
    (State.leads_onStation _ 3 (Bench.leads_resetTest _))

theorem Bench.closeRecord_state (b : Bench) (silent : Bool) :
    (b.closeRecord silent).st.sc.state = .idle := by
  unfold Bench.closeRecord
  split
  next idle => exact idle
  · rfl

theorem Bench.resetTest_state (b : Bench) : b.resetTest.st.sc.state = .idle := by
  unfold Bench.resetTest
  split
  next idle => exact idle
  · exact Bench.closeRecord_state _ _

theorem State.onStation_get (s : State) (i : StNo) (f : Bench → Bench) :
    (s.onStation i f).stations.get i = (f (s.bench i)).st := by
  simp [State.onStation]

theorem State.onStation_get_ne (s : State) {i j : StNo} (h : j ≠ i) (f : Bench → Bench) :
    (s.onStation i f).stations.get j = s.stations.get j := by
  simp [State.onStation, Quad.get_set_ne _ _ _ _ h]

theorem State.endTests_idle (s : State) (i : StNo) : (s.endTests.stations.get i).sc.state = .idle := by
  unfold State.endTests
  have reset : ∀ t : State, ((t.onStation i Bench.resetTest).stations.get i).sc.state = .idle := fun t => by
    rw [State.onStation_get]
    exact Bench.resetTest_state _
  have keep : ∀ (t : State) (j : StNo), (t.stations.get i).sc.state = .idle →
      ((t.onStation j Bench.resetTest).stations.get i).sc.state = .idle := fun t j ht => by
    by_cases h : i = j
    · subst h
      exact reset t
    · rw [State.onStation_get_ne _ h]
      exact ht
  fin_cases i
  · exact keep _ _ (keep _ _ (keep _ _ (reset _)))
  · exact keep _ _ (keep _ _ (reset _))
  · exact keep _ _ (reset _)
  · exact reset _

theorem State.safetyStop_eq_false {s : State} :
    s.safetyStop = false ↔ ∀ i, ¬ ((s.stations.get i).sc.state = .stopping ∧
      (s.stations.get i).sc.safety = true) := by
  simp only [State.safetyStop, List.any_eq_false, Quad.mem_toList, forall_exists_index,
    Bool.and_eq_true, decide_eq_true_eq]
  exact ⟨fun h i => h _ i rfl, fun h t i hi => hi ▸ h i⟩

theorem State.leads_cellReset (s : State) : s.Leads s.cellReset := by
  have quiet : s.endTests.safetyStop = false := by
    refine State.safetyStop_eq_false.2 fun i ⟨stopping, _⟩ => ?_
    rw [s.endTests_idle i] at stopping
    cases stopping
  have ended := s.leads_endTests.next (.clearLine quiet)
  have heads := State.Calm.setHeads s.endTests (hs := s.endTests.heads.map HeadEntry.cellReset)
    (HeadsFit.map fun _ h => h)
  refine ended.calm ⟨rfl, rfl, rfl, rfl, rfl, fun i => ?_, heads.ring⟩
  fin_cases i <;> exact ⟨rfl, rfl, rfl, fun h => ⟨h.1, Nat.zero_le _⟩⟩

theorem opCellReset_leads : LeadsOn opCellReset := fun _ s => s.leads_cellReset

/-! ### Commands -/

theorem State.calm_reply (r : Request) (a : Answer) : a.state.Calm (State.reply r a) := by
  refine .ofRing fun h => ⟨h.1, ?_, h.2.2⟩
  simpa [State.reply] using h.2.1

theorem leads_checked {op : Request → State → Answer} (hop : LeadsOn op) (r : Request) (s : State) :
    s.Leads (checked op r s).state := by
  unfold checked
  split
  · exact .refl s
  · exact hop r s

theorem LeadsOn.request {op : Request → State → Answer} (hop : LeadsOn op) (kind : Nat → Bool)
    (s : State) : s.Leads (s.request kind op) := by
  obtain ⟨r, -, -, h⟩ | h := s.request_cases kind op
  · rw [h]
    have settled := s.leads_settle
    generalize s.settle = z at settled ⊢
    exact (settled.trans (leads_checked hop r z)).calm (State.calm_reply r _)
  · rw [h]; exact .refl s

/-- The state that an outcome answers is made of moves. -/
def LeadsTo (s : State) (o : Host.Outcome State Fault Refusal) : Prop :=
  ∀ t, o = .next t → s.Leads t

theorem leadsTo_next {s t : State} (h : s.Leads t) : LeadsTo s (.next t) := by
  rintro _ ⟨⟩
  exact h

theorem execFlywheelExpiry_leads (s : State) : LeadsTo s (execFlywheelExpiry s) := by
  refine leadsTo_next ?_
  split
  · exact s.leads_flywheel
  · exact .refl s

theorem execLossOfSync_leads (node : Nat) (s : State) : LeadsTo s (execLossOfSync node s) := by
  unfold execLossOfSync
  split
  · split
    · refine leadsTo_next ?_
      split
      · exact s.leads_loseHead node
      · exact .refl s
    · exact leadsTo_next (.refl s)
  · rintro _ ⟨⟩

/-- Every command is made of moves. -/
theorem exec_leads (c : Instr) (s : State) : LeadsTo s (exec c s) := by
  cases c with
  | powerOnReset straps => exact leadsTo_next (State.Move.reset straps).leads
  | frameReceived f => exact leadsTo_next (s.leads_receive f)
  | flywheelExpiry => exact execFlywheelExpiry_leads s
  | lossOfSync node => exact execLossOfSync_leads node s
  | transmissionEnd => exact leadsTo_next s.calm_endTransmission.leads
  | feedbackLost i | speedDeviation i | torqueLimit i | rampDone i | speedNotReached i | dwellDone i
  | leakWaitTimeout i | runaway i | stopComplete i | stopTimeout i | pulseEnd i | recoveryEnd i
  | windowClose i | slow i | listenCutOff i | listenTimeLimit i | fill i | supplyWaitLimit i | settle i
  | grossLeak i | measure i | startBlock i | endBlock i | disturbed i | ventDone i | ventTimeout i =>
    exact leadsTo_next (s.leads_fireDue i _)
  | badKind | status | readCell =>
    exact leadsTo_next (LeadsOn.request (fun _ s => .refl s) _ s)
  | readStation =>
    exact leadsTo_next (LeadsOn.request (fun _ s => leads_onNamed fun _ => .refl s) _ s)
  | readCounters => exact leadsTo_next (opReadCounters_leads.request _ s)
  | loadVariant => exact leadsTo_next (opLoadVariant_leads.request _ s)
  | loadRecipe => exact leadsTo_next (opLoadRecipe_leads.request _ s)
  | loadLimits => exact leadsTo_next (opLoadLimits_leads.request _ s)
  | loadAngle => exact leadsTo_next (opLoadAngle_leads.request _ s)
  | deleteEntry => exact leadsTo_next (opDeleteEntry_leads.request _ s)
  | readEntry => exact leadsTo_next (opReadEntry_leads.request _ s)
  | setStation => exact leadsTo_next (opSetStation_leads.request _ s)
  | setCell => exact leadsTo_next (opSetCell_leads.request _ s)
  | admitAxle => exact leadsTo_next (opAdmit_leads.request _ s)
  | setRunMode => exact leadsTo_next (opSetRunMode_leads.request _ s)
  | resume => exact leadsTo_next (opResume_leads.request _ s)
  | abort => exact leadsTo_next (opAbort_leads.request _ s)
  | readReport => exact leadsTo_next (opReadReport_leads.request _ s)
  | releaseReport => exact leadsTo_next (opReleaseReport_leads.request _ s)
  | clearReject => exact leadsTo_next (opClearReject_leads.request _ s)
  | clearLineStop => exact leadsTo_next (opClearLineStop_leads.request _ s)
  | cellReset => exact leadsTo_next (opCellReset_leads.request _ s)

theorem State.calm_pending (s : State) (cs : List Instr) : s.Calm { s with pending := cs } :=
  .ofRing id

/-- Every step is made of moves. -/
theorem step_leads {s t : State} (h : step s = .next t) : s.Leads t := by
  unfold step at h
  split at h
  next c rest _ => exact (s.calm_pending rest).leads.trans (exec_leads c _ t h)
  · cases h
    exact .refl s

/-- What every move keeps, every step keeps. -/
theorem step_keeps {P : State → Prop} (move : ∀ s t : State, P s → s.Move t → P t) {s t : State}
    (hs : P s) (h : step s = .next t) : P t := (step_leads h).keeps move hs

end Sys2Proof.Machine
end

section
/-! SUPPORT. What the moves keep of bounds, LINESTOP and drives (O55, O56, O57). -/

namespace Sys2Proof.Machine

/-! ### What a grip says of a context -/

theorem Context.state_of_grip {x : Context} {g : Grip} (h : x.grip = g) : x.state = g.state := h ▸ rfl

theorem Context.recordId_of_grip {x : Context} {g : Grip} (h : x.grip = g) : x.recordId = g.recordId := h ▸ rfl

theorem Context.variantSlot_of_grip {x : Context} {g : Grip} (h : x.grip = g) : x.variantSlot = g.variantSlot := h ▸ rfl

theorem Context.variantUse_of_grip {x : Context} {g : Grip} (h : x.grip = g) : x.variantUse = g.variantUse := h ▸ rfl

theorem Context.chain_of_grip {x : Context} {g : Grip} (h : x.grip = g) : x.chain = g.chain := h ▸ rfl

theorem Context.safety_of_grip {x : Context} {g : Grip} (h : x.grip = g) : x.safety = g.safety := h ▸ rfl

theorem Context.stopKind_of_grip {x : Context} {g : Grip} (h : x.grip = g) : x.stopKind = g.stopKind := h ▸ rfl

theorem Context.segment_of_grip {x : Context} {g : Grip} (h : x.grip = g) : x.segment = g.segment := h ▸ rfl

/-! ### From a station to the machine -/

/-- What one move of a station keeps, all its moves keep. -/
theorem State.keeps_of_station {P : State → Prop}
    (station : ∀ s i c, P s → (s.bench i).Move c → P (s.putBench i c)) {s : State} {i : StNo} {c : Bench}
    (hs : P s) (h : (s.bench i).Leads c) : P (s.putBench i c) := by
  induction h with
  | refl => rwa [State.putBench_bench]
  | tail first last ih =>
    rw [← State.putBench_putBench s i _ _]
    refine station _ i _ ih ?_
    rw [State.putBench_bench_self (Bench.Leads.around first)]
    exact .change last

theorem forceStation_keeps {P : State → Prop}
    (station : ∀ s i c, P s → (s.bench i).Move c → P (s.putBench i c)) (e : Entry) (i : StNo)
    {p : State × Nat} (h : P p.1) : P (forceStation e i p).1 := by
  unfold forceStation
  split
  · exact State.keeps_of_station station h (Bench.leads_forceOut _)
  · exact h

/-- What the moves of its stations keep, the machine keeps when its users of an entry are stopped. -/
theorem forceUsers_keeps {P : State → Prop}
    (station : ∀ s i c, P s → (s.bench i).Move c → P (s.putBench i c)) (e : Entry) {s : State} (h : P s) :
    P (forceUsers e s).1 :=
  forceStation_keeps station e 3 (forceStation_keeps station e 2 (forceStation_keeps station e 1
    (forceStation_keeps station e 0 (p := (s, 0)) h)))

/-! ### Outputs -/

@[simp] theorem Bench.finishSegment_ou (b : Bench) (g : Segment) (o : SegOutcome) :
    (b.finishSegment g o).st.ou = b.st.ou := by
  unfold Bench.finishSegment Bench.endListen
  dsimp only
  split <;> rfl

@[simp] theorem Bench.releaseVariant_ou (b : Bench) : b.releaseVariant.st.ou = b.st.ou := by
  unfold Bench.releaseVariant
  split <;> rfl

theorem Bench.closeRecord_outputs (b : Bench) (silent : Bool) (h : b.st.ou.Fits) :
    (b.closeRecord silent).st.ou.Fits := by
  unfold Bench.closeRecord
  split
  · exact h
  · unfold Bench.tellVerdict
    dsimp only
    split
    · simpa [Bench.becomeIdle] using h.verdict _ _
    · simpa [Bench.becomeIdle] using h

@[simp] theorem Bench.follow_ou (b : Bench) : b.follow.st.ou = b.st.ou := by
  obtain ⟨d, h, -⟩ := b.follow_spec
  rw [h]
  rfl

theorem Bench.Move.outputs {b c : Bench} (h : b.Move c) (fits : b.st.ou.Fits) : c.st.ou.Fits := by
  cases h with
  | enrol slot v e mode serial =>
    have same : ((b.enrol slot v mode serial).st.ou) = { b.st.ou with pass := false } := by
      simp [Bench.enrol]
    rw [same]
    exact fits
  | change h =>
    cases h with
    | quiet h => exact h.outputs fits
    | segment g o => simpa using fits
    | release => simpa using fits
    | close silent => exact b.closeRecord_outputs silent fits
    | clear | stop | coast | alarm | hold | wait | take | push | swap | pop | listen => exact fits

/-! ### Bounds -/

theorem Output.Fits.modeChange {o : Output} (h : o.Fits) : o.modeChange.Fits := ⟨h.1, Nat.zero_le _⟩

theorem State.Bounded.station {s : State} {i : StNo} {c : Bench} (hs : s.Bounded)
    (h : (s.bench i).Move c) : (s.putBench i c).Bounded := by
  rw [State.bounded_iff] at hs ⊢
  obtain ⟨ring, outputs⟩ := hs
  refine ⟨ring, fun j => ?_⟩
  by_cases hj : j = i
  · subst hj
    rw [State.putBench_get]
    exact h.outputs (outputs j)
  · rw [State.putBench_get_ne _ _ _ _ hj]
    exact outputs j

theorem initial_outputs_fit : Output.initial.Fits := ⟨Nat.zero_le _, Nat.zero_le _⟩

theorem State.reset_bounded : State.reset.Bounded := by
  refine (State.bounded_iff _).2 ⟨⟨Nat.zero_le _, Nat.zero_le _, Nat.zero_le _, Nat.zero_le _, Nat.zero_le _,
    Nat.zero_le _, Nat.zero_le _, Nat.zero_le _, Nat.zero_le _, Nat.zero_le _, fun h mem => ?_⟩, fun i => ?_⟩
  · obtain rfl := List.eq_of_mem_replicate mem
    exact ⟨Nat.zero_le _, Nat.zero_le _, Nat.zero_le _⟩
  · rw [State.reset, Quad.get_all]
    exact initial_outputs_fit

theorem State.Bounded.move {s t : State} (hs : s.Bounded) (h : s.Move t) : t.Bounded := by
  cases h with
  | station i h => exact hs.station h
  | calm h =>
    obtain ⟨ring, outputs⟩ := (State.bounded_iff s).1 hs
    exact (State.bounded_iff t).2 ⟨h.ring ring, fun i => (h.stations i).outputs (outputs i)⟩
  | setup i mask body =>
    obtain ⟨ring, outputs⟩ := (State.bounded_iff s).1 hs
    refine (State.bounded_iff _).2 ⟨ring, fun j => ?_⟩
    unfold State.writeSetup
    by_cases hj : j = i
    · subst hj
      simp only [Quad.get_set, Station.resetup]
      split
      · exact outputs j
      · exact (outputs j).modeChange
    · simpa only [Quad.get_set_ne _ _ _ _ hj] using outputs j
  | forced e w => exact forceUsers_keeps (fun _ _ _ hs h => State.Bounded.station hs h) e hs
  | reset straps => exact State.reset_bounded
  | cell | table | part | release | clearLine => exact hs

/-! ### LINESTOP -/

/-- R81 and R175 of one station. -/
def Bench.Alarmed (b : Bench) : Prop :=
  b.st.sc.safety = true → b.st.sc.state = .stopping ∧ b.lineStop = true

theorem Bench.Stepping.ne_stopping {b : Bench} (h : b.Stepping) : b.st.sc.state ≠ .stopping := by
  obtain ⟨h, -⟩ | h := h <;> simp [h]

theorem Bench.Alarmed.no_safety {b : Bench} (h : b.Alarmed) (state : b.st.sc.state ≠ .stopping) :
    b.st.sc.safety = false :=
  Bool.eq_false_iff.2 fun safety => state (h safety).1

@[simp] theorem Bench.finishSegment_lineStop (b : Bench) (g : Segment) (o : SegOutcome) :
    (b.finishSegment g o).lineStop = b.lineStop := by
  unfold Bench.finishSegment Bench.endListen
  dsimp only
  split <;> rfl

@[simp] theorem Bench.releaseVariant_lineStop (b : Bench) : b.releaseVariant.lineStop = b.lineStop := by
  unfold Bench.releaseVariant
  split <;> rfl

@[simp] theorem Bench.follow_lineStop (b : Bench) : b.follow.lineStop = b.lineStop := by
  obtain ⟨d, h, -⟩ := b.follow_spec
  rw [h]
  rfl

@[simp] theorem Bench.tellVerdict_lineStop (b : Bench) (silent : Bool) (v : Option Verdict) :
    (b.tellVerdict silent v).lineStop = b.lineStop := by
  unfold Bench.tellVerdict
  split <;> rfl

@[simp] theorem Bench.closeRecord_lineStop (b : Bench) (silent : Bool) :
    (b.closeRecord silent).lineStop = b.lineStop := by
  unfold Bench.closeRecord
  split <;> simp [Bench.becomeIdle]

/-- A close leaves an IDLE context, or the IDLE station as it was. -/
theorem Bench.closeRecord_sc (b : Bench) (silent : Bool) : (b.closeRecord silent).st.sc =
    if b.st.sc.state = .idle then b.st.sc else Context.idle := by
  unfold Bench.closeRecord
  split <;> rfl

@[simp] theorem Bench.follow_sc' (b : Bench) : b.follow.st.sc = b.st.sc := b.follow_sc

theorem Bench.enrol_sc (b : Bench) (slot : Nat) (v : Variant) (mode : RunMode) (serial : List Byte) :
    (b.enrol slot v mode serial).st.sc =
      admitContext b.store.nextId slot v.recipe (b.lib.stopOnFail v.recipe) := by
  simp [Bench.enrol]

/-- No move of a station deasserts LINESTOP. -/
theorem Bench.Move.lineStop {b c : Bench} (h : b.Move c) (asserted : b.lineStop = true) :
    c.lineStop = true := by
  cases h with
  | enrol => simpa [Bench.enrol] using asserted
  | change h =>
    cases h with
    | quiet h => rw [h.lineStop, asserted]
    | alarm => rfl
    | segment | release | close => simpa using asserted
    | clear | stop | coast | hold | wait | take | push | swap | pop | listen => exact asserted

theorem Bench.Alarmed.move {b c : Bench} (hb : b.Alarmed) (h : b.Move c) : c.Alarmed := by
  have kept : ∀ {c : Bench}, c.st.sc.safety = b.st.sc.safety → b.st.sc.state ≠ .stopping → c.Alarmed :=
    fun safety state hc => by simp [safety, hb.no_safety state] at hc
  cases h with
  | enrol slot v e mode serial idle =>
    rw [Bench.Alarmed, Bench.enrol_sc]
    exact fun h => by cases h
  | change h =>
    cases h with
    | quiet h =>
      obtain ⟨state, -, -, -, -, safety, -, -⟩ := Context.grip_eq h.grip
      rw [Bench.Alarmed, state, safety, h.lineStop]
      exact hb
    | segment g o => simpa [Bench.Alarmed] using hb
    | release => simpa [Bench.Alarmed, Bench.releaseVariant_sc] using hb
    | clear | coast => exact hb
    | alarm state => exact fun _ => ⟨state, rfl⟩
    | stop driving _ _ hx =>
      exact kept (Context.safety_of_grip hx) (fun state => by simp [state, StState.driving] at driving)
    | hold step hx =>
      exact kept (Context.safety_of_grip hx) step.ne_stopping
    | wait step _ hx =>
      exact kept (Context.safety_of_grip hx) step.ne_stopping
    | take g step hx | listen _ g _ _ step _ _ _ hx =>
      exact kept (Context.safety_of_grip hx) step.ne_stopping
    | push r ret e step _ _ hx =>
      exact kept (Context.safety_of_grip hx) step.ne_stopping
    | swap r e top below step _ _ _ hx =>
      exact kept (Context.safety_of_grip hx) step.ne_stopping
    | pop top below _ hx =>
      simp only [Bench.Alarmed, Bench.setSc_sc, Context.state_of_grip hx, Context.safety_of_grip hx]
      exact hb
    | close silent =>
      rw [Bench.Alarmed, Bench.closeRecord_sc, Bench.closeRecord_lineStop]
      split
      · exact hb
      · exact fun h => by cases h

theorem State.LineStopHolds.station {s : State} {i : StNo} {c : Bench} (hs : s.LineStopHolds)
    (h : (s.bench i).Move c) : (s.putBench i c).LineStopHolds := by
  intro j
  by_cases hj : j = i
  · subst hj
    rw [State.putBench_get]
    exact Bench.Alarmed.move (b := s.bench j) (hs j) h
  · rw [State.putBench_get_ne _ _ _ _ hj]
    exact fun safety => ⟨(hs j safety).1, h.lineStop (hs j safety).2⟩

theorem State.reset_lineStopHolds : State.reset.LineStopHolds := by
  intro i
  rw [State.reset, Quad.get_all]
  exact fun h => by cases h

theorem State.LineStopHolds.move {s t : State} (hs : s.LineStopHolds) (h : s.Move t) :
    t.LineStopHolds := by
  cases h with
  | station i h => exact hs.station h
  | calm h =>
    intro i
    rw [(h.stations i).sc, h.lineStop]
    exact hs i
  | setup i mask body =>
    intro j
    by_cases hj : j = i
    · subst hj
      simpa only [State.writeSetup, Quad.get_set, Station.resetup] using hs j
    · simpa only [State.writeSetup, Quad.get_set_ne _ _ _ _ hj] using hs j
  | forced e w =>
    exact forceUsers_keeps (fun _ _ _ hs h => State.LineStopHolds.station hs h) e hs
  | clearLine quiet =>
    exact fun i safety => absurd ⟨(hs i safety).1, safety⟩ (State.safetyStop_eq_false.1 quiet i)
  | reset straps => exact State.reset_lineStopHolds
  | cell | table | part | release => exact hs

/-! ### Drives -/

theorem Drive.idle_off : Drive.idle.Off := ⟨rfl, rfl, rfl⟩

@[simp] theorem Bench.finishSegment_dc (b : Bench) (g : Segment) (o : SegOutcome) :
    (b.finishSegment g o).st.dc = b.st.dc := by
  unfold Bench.finishSegment Bench.endListen
  dsimp only
  split <;> rfl

@[simp] theorem Bench.releaseVariant_dc (b : Bench) : b.releaseVariant.st.dc = b.st.dc := by
  unfold Bench.releaseVariant
  split <;> rfl

/-- A station in a state that neither is IDLE nor coasts needs a setpoint within Vmax alone. -/
theorem Bench.DriveHeld.of_state {b c : Bench} (hb : b.DriveHeld) (around : c.around = b.around)
    (drive : c.st.dc = b.st.dc) (idle : c.st.sc.state ≠ .idle)
    (coast : c.st.sc.state = .stopping → c.st.sc.stopKind ≠ some .coast) : c.DriveHeld := by
  obtain ⟨-, -, -, -, setup, cell⟩ := Bench.around_eq around
  refine ⟨fun h => absurd h idle, fun h k => absurd k (coast h), ?_⟩
  simpa only [Bench.vmax, drive, setup, cell] using hb.2.2

/-- The drive, the state and the stop kind are all that R83, R87 and R88 read of a station. -/
theorem Bench.DriveHeld.of_parts {b c : Bench} (hb : b.DriveHeld) (around : c.around = b.around)
    (drive : c.st.dc = b.st.dc) (state : c.st.sc.state = b.st.sc.state)
    (kind : c.st.sc.stopKind = b.st.sc.stopKind) : c.DriveHeld := by
  obtain ⟨-, -, -, -, setup, cell⟩ := Bench.around_eq around
  simpa only [Bench.DriveHeld, Bench.vmax, drive, setup, cell, state, kind] using hb

theorem Bench.DriveHeld.move {b c : Bench} (hb : b.DriveHeld) (h : b.Move c) : c.DriveHeld := by
  have around := h.around
  cases h with
  | enrol slot v e mode serial idle =>
    have state : (b.enrol slot v mode serial).st.sc.state = .running := by rw [Bench.enrol_sc]; rfl
    have setpoint : (b.enrol slot v mode serial).st.dc.setpoint = 0 := by
      unfold Bench.enrol
      dsimp only
      obtain ⟨d, hd, hs, -⟩ := Bench.follow_spec (Bench.setDc (((((b.setStore _).setSc _).setLib _).setMode _)) _)
      rw [hd]
      exact hs
    exact ⟨by simp [state], by simp [state], by simp [setpoint]⟩
  | change h =>
    cases h with
    | quiet h => exact h.drive hb
    | segment g o =>
      refine Bench.DriveHeld.of_parts hb around ?_ ?_ ?_ <;> simp
    | release =>
      refine Bench.DriveHeld.of_parts hb around ?_ ?_ ?_ <;> simp [Bench.releaseVariant_sc]
    | clear | alarm => exact hb
    | coast state =>
      exact ⟨fun _ => ⟨rfl, rfl, rfl⟩, fun _ _ => ⟨rfl, rfl, rfl⟩, Nat.zero_le _⟩
    | stop _ _ _ hx =>
      have state := Context.state_of_grip hx
      have kind := Context.stopKind_of_grip hx
      exact hb.of_state rfl rfl (by simp [state]) (by simp [kind])
    | hold step hx =>
      have state := Context.state_of_grip hx
      exact hb.of_state rfl rfl (by simp [state]) (by simp [state])
    | wait step _ hx =>
      have state := Context.state_of_grip hx
      exact hb.of_state rfl rfl (by simp [state]) (by simp [state])
    | take g step hx | listen _ g _ _ step _ _ _ hx =>
      have state := Context.state_of_grip hx
      exact hb.of_state rfl rfl (by simp [state]) (by simp [state])
    | push r ret e step _ _ hx =>
      exact hb.of_parts around rfl (Context.state_of_grip hx) (Context.stopKind_of_grip hx)
    | swap r e top below step _ _ _ hx =>
      exact hb.of_parts around rfl (Context.state_of_grip hx) (Context.stopKind_of_grip hx)
    | pop top below _ hx =>
      exact hb.of_parts around rfl (Context.state_of_grip hx) (Context.stopKind_of_grip hx)
    | close silent =>
      by_cases idle : b.st.sc.state = .idle
      · rw [Bench.closeRecord, if_pos idle]
        exact hb
      · have drive : (b.closeRecord silent).st.dc = Drive.idle := by
          rw [Bench.closeRecord, if_neg idle]
          rfl
        refine ⟨fun _ => ?_, fun _ _ => ?_, ?_⟩ <;> rw [drive]
        · exact Drive.idle_off
        · exact Drive.idle_off
        · exact Nat.zero_le _

theorem State.DrivesHeld.station {s : State} {i : StNo} {c : Bench} (hs : s.DrivesHeld)
    (h : (s.bench i).Move c) : (s.putBench i c).DrivesHeld := by
  intro j
  by_cases hj : j = i
  · subst hj
    have held : c.DriveHeld := Bench.DriveHeld.move (b := s.bench j) (hs j) h
    obtain ⟨-, -, -, -, setup, cell⟩ := Bench.around_eq h.around
    rw [State.putBench_get]
    simpa only [Bench.DriveHeld, Bench.vmax, setup, cell, State.bench_setup, State.bench_cell,
      State.putBench_setups, State.putBench_cell] using held
  · rw [State.putBench_get_ne _ _ _ _ hj]
    exact hs j

/-- The setpoint of an IDLE station is within any max speed. -/
theorem State.DrivesHeld.idle_within {s : State} {i : StNo} (hs : s.DrivesHeld)
    (idle : (s.stations.get i).sc.state = .idle) (v : Nat) :
    (s.stations.get i).dc.setpoint.natAbs ≤ v := by
  rw [((hs i).1 idle).2.1]
  exact Nat.zero_le v

theorem State.reset_drivesHeld : State.reset.DrivesHeld := by
  intro i
  rw [State.reset, Quad.get_all]
  exact ⟨fun _ => Drive.idle_off, (fun h => by cases h), Nat.zero_le _⟩

theorem State.allIdle_iff (s : State) : s.allIdle = true ↔ ∀ i, (s.stations.get i).sc.state = .idle := by
  simp only [State.allIdle, List.all_eq_true, Quad.mem_toList, forall_exists_index, decide_eq_true_eq]
  exact ⟨fun h i => h _ i rfl, fun h t i hi => hi ▸ h i⟩

/-- A setup write that marks no run-bound field keeps max speed and angle table. -/
theorem Setup.write_unbound (absMax : Nat) {mask : Nat} (body : List Byte) (su : Setup)
    (h : mask % 8192 = 0) : (su.write absMax mask body).maxSpeed = su.maxSpeed ∧
      (su.write absMax mask body).angleTable = su.angleTable := by
  have clear : ∀ k, k < 13 → bitSet mask k = false := fun k hk => by
    obtain ⟨m, rfl⟩ := Nat.dvd_of_mod_eq_zero h
    rw [bitSet, Nat.testBit_two_pow_mul (i := 13)]
    simp; omega
  simp [Setup.write, Numeric.write, choose, fMaxSpeed, clear]

theorem State.DrivesHeld.move {s t : State} (hs : s.DrivesHeld) (h : s.Move t) : t.DrivesHeld := by
  cases h with
  | station i h => exact hs.station h
  | calm h =>
    intro i
    rw [(h.stations i).sc, (h.stations i).dc, h.setups, h.cell]
    exact hs i
  | setup i mask body allowed =>
    intro j
    by_cases hj : j = i
    · subst hj
      simp only [State.writeSetup, Quad.get_set, Station.resetup]
      obtain unmarked | idle := allowed
      · rw [(Setup.write_unbound _ body _ unmarked).1]
        exact hs j
      · exact ⟨(hs j).1, (hs j).2.1, hs.idle_within idle _⟩
    · simpa only [State.writeSetup, Quad.get_set_ne _ _ _ _ hj] using hs j
  | cell x allowed =>
    intro j
    obtain same | idle := allowed
    · simp only [same]
      exact hs j
    · exact ⟨(hs j).1, (hs j).2.1, hs.idle_within ((s.allIdle_iff.1 idle) j) _⟩
  | forced e w =>
    exact forceUsers_keeps (fun _ _ _ hs h => State.DrivesHeld.station hs h) e hs
  | reset straps => exact State.reset_drivesHeld
  | table | part | release | clearLine => exact hs

/-- Settles O55: no move of the machine overfills a queue or a counter. -/
theorem stepKeepsBounds : Obligations.StepKeepsBounds :=
  fun _ _ hs h => step_keeps (fun _ _ hs h => State.Bounded.move hs h) hs h

/-- Settles O56: every move keeps LINESTOP with the safety stops; only an alarm sets the safety mark. -/
theorem stepKeepsLineStop : Obligations.StepKeepsLineStop :=
  fun _ _ hs h => step_keeps (fun _ _ hs h => State.LineStopHolds.move hs h) hs h

/-- Settles O57: every move keeps the drives held; max speeds fall only where the setpoint is 0. -/
theorem stepKeepsDrivesHeld : Obligations.StepKeepsDrivesHeld :=
  fun _ _ hs h => step_keeps (fun _ _ hs h => State.DrivesHeld.move hs h) hs h

end Sys2Proof.Machine
end

section
/-! SUPPORT. What the moves keep of the stations' step by step order and of the in-use counts (O58). -/

namespace Sys2Proof.Machine

/-! ### Stations in step -/

/-- A station that runs no segment has no listening point. -/
theorem Station.InStep.point_none {t : Station} (h : t.InStep) (segment : t.sc.segment = none) :
    t.point = none := by
  obtain ⟨-, point, -, -⟩ := h
  refine Option.eq_none_iff_forall_ne_some.2 fun p hp => ?_
  obtain ⟨g, hg, -⟩ := point (by simp [hp])
  simp [segment] at hg

theorem Station.InStep.segment_none {t : Station} (h : t.InStep) (state : t.sc.state ≠ .running) :
    t.sc.segment = none :=
  Option.not_isSome_iff_eq_none.1 fun some => state (h.1 some)

theorem Bench.Stepping.segment_none {b : Bench} (h : b.Stepping) (step : b.st.InStep) :
    b.st.sc.segment = none := by
  obtain ⟨-, none⟩ | held := h
  · exact none
  · exact step.segment_none (by simp [held])

theorem Station.InStep.chain_nil {t : Station} (h : t.InStep) (running : t.sc.state ≠ .running)
    (held : t.sc.state ≠ .held) : t.sc.chain = [] := h.2.2.1 running held

/-- A station without a segment and a point is in step when its chain is. -/
theorem Station.InStep.of_none {t : Station} (segment : t.sc.segment = none) (point : t.point = none)
    (chain : t.sc.state ≠ .running → t.sc.state ≠ .held → t.sc.chain = [])
    (nodup : (t.sc.chain.map ChainEntry.recipe).Nodup) : t.InStep :=
  ⟨by simp [segment], by simp [point], chain, nodup⟩

theorem Station.InStep.of_grip {t u : Station} (h : t.InStep) (grip : u.sc.grip = t.sc.grip)
    (set : u.setInUse = t.setInUse) : u.InStep := by
  obtain ⟨state, -, -, -, chain, -, -, segment⟩ := Context.grip_eq grip
  have point : u.point.isSome = t.point.isSome := by
    simpa [Station.setInUse] using congrArg Option.isSome set
  simpa only [Station.InStep, state, chain, segment, point] using h

theorem Bench.finishSegment_point {b : Bench} (g : Segment) (o : SegOutcome) :
    (b.finishSegment g o).st.point = none := by
  unfold Bench.finishSegment Bench.endListen
  dsimp only
  split
  · rfl
  next none => exact none

theorem chainHolds_eq_false {ch : List ChainEntry} {r : Nat} :
    chainHolds ch r = false ↔ r ∉ ch.map ChainEntry.recipe := by
  simp [chainHolds]

theorem nodup_cons_chain {ch : List ChainEntry} {r : Nat} (ret : Option Nat)
    (nodup : (ch.map ChainEntry.recipe).Nodup) (new : chainHolds ch r = false) :
    (((⟨r, ret⟩ : ChainEntry) :: ch).map ChainEntry.recipe).Nodup :=
  List.nodup_cons.2 ⟨chainHolds_eq_false.1 new, nodup⟩

@[simp] theorem Bench.releaseVariant_point (b : Bench) : b.releaseVariant.st.point = b.st.point := by
  unfold Bench.releaseVariant
  split <;> rfl

@[simp] theorem Bench.follow_point (b : Bench) : b.follow.st.point = b.st.point := by
  obtain ⟨d, h, -⟩ := b.follow_spec
  rw [h]
  rfl

theorem Bench.enrol_point (b : Bench) (slot : Nat) (v : Variant) (mode : RunMode) (serial : List Byte) :
    (b.enrol slot v mode serial).st.point = b.st.point := by
  simp [Bench.enrol]

theorem Bench.closeRecord_point {b : Bench} (h : b.st.sc.state ≠ .idle) (silent : Bool) :
    (b.closeRecord silent).st.point = none := by
  unfold Bench.closeRecord
  rw [if_neg h]
  rfl

theorem Bench.Move.inStep {b c : Bench} (hb : b.st.InStep) (h : b.Move c) : c.st.InStep := by
  cases h with
  | enrol slot v e mode serial idle =>
    have point := (b.enrol_point slot v mode serial).trans
      (hb.point_none (hb.segment_none (by simp [idle])))
    have sc := b.enrol_sc slot v mode serial
    refine .of_none ?_ point ?_ ?_ <;> simp [sc, admitContext, Context.idle]
  | change h =>
    cases h with
    | quiet h => exact hb.of_grip h.grip h.setInUse
    | segment g o =>
      refine .of_none (by simp) (Bench.finishSegment_point g o) ?_ ?_
      · simpa using hb.2.2.1
      · simpa using hb.2.2.2
    | clear => exact ⟨hb.1, hb.2.1, fun _ _ => rfl, List.nodup_nil⟩
    | release => simpa [Station.InStep, Bench.releaseVariant_sc] using hb
    | stop driving segment chain hx =>
      have ended := (Context.chain_of_grip hx).trans chain
      refine .of_none ((Context.segment_of_grip hx).trans segment) (hb.point_none segment)
        (fun _ _ => ended) ?_
      simp only [Bench.setSc_sc, ended, List.map_nil, List.nodup_nil]
    | coast | alarm => exact hb
    | hold step hx =>
      have segment := step.segment_none hb
      refine .of_none ((Context.segment_of_grip hx).trans segment) (hb.point_none segment)
        (fun _ held => absurd (Context.state_of_grip hx) held) ?_
      simpa only [Bench.setSc_sc, Context.chain_of_grip hx, Context.grip] using hb.2.2.2
    | wait step chain hx =>
      have segment := step.segment_none hb
      have ended := (Context.chain_of_grip hx).trans chain
      refine .of_none ((Context.segment_of_grip hx).trans segment) (hb.point_none segment)
        (fun _ _ => ended) ?_
      simp only [Bench.setSc_sc, ended, List.map_nil, List.nodup_nil]
    | take g step hx =>
      have point := hb.point_none (step.segment_none hb)
      refine ⟨fun _ => Context.state_of_grip hx, by simp [point],
        fun running => absurd (Context.state_of_grip hx) running, ?_⟩
      simpa only [Bench.setSc_sc, Context.chain_of_grip hx, Context.grip] using hb.2.2.2
    | listen p g _ _ step kind _ _ hx =>
      refine ⟨fun _ => Context.state_of_grip hx, fun _ => ⟨g, Context.segment_of_grip hx, kind⟩,
        fun running => absurd (Context.state_of_grip hx) running, ?_⟩
      simpa only [Bench.setSc_sc, Context.chain_of_grip hx, Context.grip] using hb.2.2.2
    | push r ret e step there new hx =>
      have segment := step.segment_none hb
      have state := Context.state_of_grip hx
      refine .of_none ((Context.segment_of_grip hx).trans segment) (hb.point_none segment) ?_ ?_
      · intro running held
        obtain ⟨run, -⟩ | hold := step
        · exact absurd (state.trans run) running
        · exact absurd (state.trans hold) held
      · simpa only [Bench.setSc_sc, Context.chain_of_grip hx, Context.grip] using nodup_cons_chain ret hb.2.2.2 new
    | swap r e top below step there chain new hx =>
      have segment := step.segment_none hb
      have state := Context.state_of_grip hx
      refine .of_none ((Context.segment_of_grip hx).trans segment) (hb.point_none segment) ?_ ?_
      · intro running held
        obtain ⟨run, -⟩ | hold := step
        · exact absurd (state.trans run) running
        · exact absurd (state.trans hold) held
      · have nodup := hb.2.2.2
        rw [chain] at nodup
        simpa only [Bench.setSc_sc, Context.chain_of_grip hx, Context.grip] using
          nodup_cons_chain top.ret (List.nodup_cons.1 nodup).2 new
    | pop top below chain hx =>
      obtain ⟨segment, point, ended, nodup⟩ := hb
      rw [chain] at ended nodup
      have state := Context.state_of_grip hx
      refine ⟨?_, ?_, ?_, ?_⟩
      · simpa only [Bench.setSc_sc, Context.segment_of_grip hx, state, Context.grip] using segment
      · simpa only [Bench.setSc_sc, Bench.setSc_point, Bench.setLib_st,
          Context.segment_of_grip hx, Context.grip] using point
      · simp only [Bench.setSc_sc, state]
        exact fun running held => absurd (ended running held) (by simp)
      · simpa only [Bench.setSc_sc, Context.chain_of_grip hx, Context.grip] using (List.nodup_cons.1 nodup).2
    | close silent =>
      by_cases idle : b.st.sc.state = .idle
      · rw [Bench.closeRecord, if_pos idle]
        exact hb
      · have sc : (b.closeRecord silent).st.sc = Context.idle := by
          rw [Bench.closeRecord_sc, if_neg idle]
        refine .of_none ?_ (Bench.closeRecord_point idle silent) ?_ ?_ <;> simp [sc, Context.idle]

/-! ### In-use counts of the tables -/

theorem entryAt_entryMap {α : Type} (t : List (Option α)) (k j : Nat) (f : α → α) :
    entryAt (entryMap t k f) j = if k = j then (entryAt t j).map f else entryAt t j := by
  unfold entryAt entryMap
  rw [List.getElem?_modify]
  split
  · cases t[j]? with
    | none => rfl
    | some o => cases o <;> rfl
  · simp

/-- A count that rises at one entry. -/
theorem count_raise {α : Type} {t : List (Option α)} {k : Nat} {x : α} (there : entryAt t k = some x)
    (count : α → Nat) {f : α → α} (hf : ∀ x, count (f x) = count x + 1) (j : Nat) :
    ((entryAt (entryMap t k f) j).map count).getD 0 =
      ((entryAt t j).map count).getD 0 + if j = k then 1 else 0 := by
  rw [entryAt_entryMap]
  by_cases h : k = j
  · subst h
    simp [there, hf]
  · simp [h, Ne.symm h]

/-- A count that falls at one entry. -/
theorem count_lower {α : Type} (t : List (Option α)) (k : Nat) (count : α → Nat) {f : α → α}
    (hf : ∀ x, count (f x) = count x - 1) (j : Nat) :
    ((entryAt (entryMap t k f) j).map count).getD 0 =
      ((entryAt t j).map count).getD 0 - if j = k then 1 else 0 := by
  rw [entryAt_entryMap]
  by_cases h : k = j
  · subst h
    cases entryAt t k <;> simp [hf]
  · simp [h, Ne.symm h]

variable (l : Library) (e : Entry)

theorem Library.inUse_useRecipe {r : Nat} {x : Recipe} (there : entryAt l.recipes r = some x) :
    (l.useRecipe r).inUse e = l.inUse e + if e = .recipe r then 1 else 0 := by
  cases e with
  | recipe j => simpa [Library.inUse, Library.useRecipe] using count_raise there Recipe.inUse (fun _ => rfl) j
  | _ => simp [Library.inUse, Library.useRecipe]

theorem Library.inUse_dropRecipe (r : Nat) :
    (l.dropRecipe r).inUse e = l.inUse e - if e = .recipe r then 1 else 0 := by
  cases e with
  | recipe j => simpa [Library.inUse, Library.dropRecipe] using count_lower l.recipes r Recipe.inUse (fun _ => rfl) j
  | _ => simp [Library.inUse, Library.dropRecipe]

theorem Library.inUse_useVariant {k : Nat} {x : Variant} (there : entryAt l.variants k = some x) :
    (l.useVariant k).inUse e = l.inUse e + if e = .variant k then 1 else 0 := by
  cases e with
  | variant j => simpa [Library.inUse, Library.useVariant] using count_raise there Variant.inUse (fun _ => rfl) j
  | _ => simp [Library.inUse, Library.useVariant]

theorem Library.inUse_dropVariant (k : Nat) :
    (l.dropVariant k).inUse e = l.inUse e - if e = .variant k then 1 else 0 := by
  cases e with
  | variant j => simpa [Library.inUse, Library.dropVariant] using count_lower l.variants k Variant.inUse (fun _ => rfl) j
  | _ => simp [Library.inUse, Library.dropVariant]

theorem Library.inUse_useListen {k n : Nat} {x : LimitSet} {y : AngleTable}
    (set : entryAt l.limits k = some x) (table : entryAt l.angles n = some y) :
    (l.useListen k n).inUse e = l.inUse e + if e = .limits k ∨ e = .angle n then 1 else 0 := by
  cases e with
  | limits j => simpa [Library.inUse, Library.useListen] using count_raise set LimitSet.inUse (fun _ => rfl) j
  | angle j => simpa [Library.inUse, Library.useListen] using count_raise table AngleTable.inUse (fun _ => rfl) j
  | _ => simp [Library.inUse, Library.useListen]

theorem Library.inUse_dropListen (k n : Nat) :
    (l.dropListen k n).inUse e = l.inUse e - if e = .limits k ∨ e = .angle n then 1 else 0 := by
  cases e with
  | limits j => simpa [Library.inUse, Library.dropListen] using count_lower l.limits k LimitSet.inUse (fun _ => rfl) j
  | angle j => simpa [Library.inUse, Library.dropListen] using count_lower l.angles n AngleTable.inUse (fun _ => rfl) j
  | _ => simp [Library.inUse, Library.dropListen]

theorem Library.inUse_dropChain (ch : List ChainEntry) :
    (l.dropChain ch).inUse e = l.inUse e - ch.countP fun c => decide (e = .recipe c.recipe) := by
  induction ch generalizing l with
  | nil => rfl
  | cons c cs ih =>
    rw [Library.dropChain, ih, Library.inUse_dropRecipe, List.countP_cons]
    by_cases h : e = .recipe c.recipe
    · rw [if_pos h, if_pos (by simpa using h), Nat.sub_sub, Nat.add_comm]
    · rw [if_neg h, if_neg (by simpa using h), Nat.sub_zero, Nat.add_zero]

/-- A chain that holds no recipe twice holds one at most once. -/
theorem countP_chain {ch : List ChainEntry} (nodup : (ch.map ChainEntry.recipe).Nodup) (r : Nat) :
    ch.countP (fun c => decide (r = c.recipe)) = (chainHolds ch r).toNat := by
  have count : ch.countP (fun c => decide (r = c.recipe)) = (ch.map ChainEntry.recipe).count r := by
    rw [List.count, List.countP_map]
    exact List.countP_congr fun c _ => by
      simpa only [Function.comp, beq_iff_eq, decide_eq_true_eq] using eq_comm
  rw [count]
  cases h : chainHolds ch r with
  | false => exact List.count_eq_zero.2 (chainHolds_eq_false.1 h)
  | true =>
    refine List.count_eq_one_of_mem nodup (not_not.1 fun hn => ?_)
    simp [chainHolds_eq_false.2 hn] at h

end Sys2Proof.Machine
end

section
/-! SUPPORT. Each in-use count is the number of users, and every move keeps it so (O58). -/

namespace Sys2Proof.Machine

variable {e : Entry}

/-! ### Users of an entry -/

theorem Bench.uses_limits (b : Bench) (n : Nat) :
    b.uses (.limits n) = decide (b.st.setInUse = some n) := by
  unfold Bench.uses Station.setInUse
  cases b.st.point <;> simp

theorem Bench.uses_angle (b : Bench) (n : Nat) :
    b.uses (.angle n) = (b.st.setInUse.isSome && decide (b.setup.angleTable = n)) := by
  simp [Bench.uses, Station.setInUse]

/-- What decides whether a station uses an entry. -/
theorem Bench.uses_congr {b c : Bench} (e : Entry) (use : c.st.sc.variantUse = b.st.sc.variantUse)
    (slot : c.st.sc.variantSlot = b.st.sc.variantSlot) (chain : c.st.sc.chain = b.st.sc.chain)
    (set : c.st.setInUse = b.st.setInUse) (setup : c.setup = b.setup) : c.uses e = b.uses e := by
  cases e with
  | variant k => simp only [Bench.uses, use, slot]
  | recipe r => simp only [Bench.uses, chain]
  | limits n => rw [Bench.uses_limits, Bench.uses_limits, set]
  | angle n => rw [Bench.uses_angle, Bench.uses_angle, set, setup]

theorem Bench.uses_of_grip {b c : Bench} (grip : c.st.sc.grip = b.st.sc.grip)
    (set : c.st.setInUse = b.st.setInUse) (setup : c.setup = b.setup) (e : Entry) :
    c.uses e = b.uses e := by
  obtain ⟨-, -, slot, use, chain, -, -, -⟩ := Context.grip_eq grip
  exact Bench.uses_congr e use slot chain set setup

/-- A station that holds no variant, no chain and no point uses nothing. -/
theorem Bench.uses_of_none {b : Bench} (use : b.st.sc.variantUse = false) (chain : b.st.sc.chain = [])
    (point : b.st.point = none) (e : Entry) : b.uses e = false := by
  cases e <;> simp [Bench.uses, use, chain, point, chainHolds]

/-- An IDLE station uses the entry by no variant. -/
def Bench.Unused (e : Entry) (b : Bench) : Prop := b.st.sc.state = .idle → b.uses e = false

/-- Uses and count of an entry rise and fall together. -/
def Bench.Balanced (e : Entry) (b c : Bench) : Prop :=
  (b.uses e).toNat ≤ b.lib.inUse e →
    c.lib.inUse e + (b.uses e).toNat = b.lib.inUse e + (c.uses e).toNat

theorem Bench.Balanced.same {b c : Bench} (lib : c.lib = b.lib) (uses : c.uses e = b.uses e) :
    b.Balanced e c := fun _ => by rw [lib, uses]

theorem Bench.Balanced.raise {b c : Bench} {p : Prop} [Decidable p]
    (lib : c.lib.inUse e = b.lib.inUse e + if p then 1 else 0)
    (uses : (c.uses e).toNat = (b.uses e).toNat + if p then 1 else 0) : b.Balanced e c := fun _ => by
  rw [lib, uses]
  omega

theorem Bench.Balanced.lower {b c : Bench} {n : Nat} (lib : c.lib.inUse e = b.lib.inUse e - n)
    (uses : (b.uses e).toNat = (c.uses e).toNat + n) : b.Balanced e c := fun _ => by
  rw [lib]
  omega

/-! ### Each move's uses -/

theorem Bench.finishSegment_lib_some {b : Bench} {p : Point} (h : b.st.point = some p) (g : Segment)
    (o : SegOutcome) :
    (b.finishSegment g o).lib = b.lib.dropListen p.limitSet b.setup.angleTable := by
  simp [Bench.finishSegment, Bench.endListen, Bench.appendSegment, h]

theorem Bench.finishSegment_lib_none {b : Bench} (h : b.st.point = none) (g : Segment) (o : SegOutcome) :
    (b.finishSegment g o).lib = b.lib := by
  simp [Bench.finishSegment, Bench.endListen, Bench.appendSegment, h]

theorem Bench.finishSegment_balanced (b : Bench) (g : Segment) (o : SegOutcome) :
    b.Balanced e (b.finishSegment g o) := by
  have point := Bench.finishSegment_point (b := b) g o
  have sc := b.finishSegment_sc g o
  cases hp : b.st.point with
  | none =>
    refine .same (Bench.finishSegment_lib_none hp g o) (Bench.uses_congr e ?_ ?_ ?_ ?_
      (Bench.around_eq (Bench.finishSegment_around b g o)).2.2.2.2.1)
    · rw [sc]
    · rw [sc]
    · rw [sc]
    · simp [Station.setInUse, point, hp]
  | some p =>
    refine .lower (n := if e = .limits p.limitSet ∨ e = .angle b.setup.angleTable then 1 else 0)
      (by rw [Bench.finishSegment_lib_some hp, Library.inUse_dropListen]) ?_
    cases e with
    | variant k => simp [Bench.uses]
    | recipe r => simp [Bench.uses]
    | limits n =>
      by_cases h : p.limitSet = n
      · simp [Bench.uses, point, hp, h]
      · simp [Bench.uses, point, hp, h, Ne.symm h]
    | angle n =>
      by_cases h : b.setup.angleTable = n
      · simp [Bench.uses, point, hp, h]
      · simp [Bench.uses, point, hp, h, Ne.symm h]

theorem Bench.clearChain_balanced {b : Bench} (hb : b.st.InStep) : b.Balanced e b.clearChain := by
  refine .lower (b.lib.inUse_dropChain e b.st.sc.chain) ?_
  cases e with
  | recipe r =>
    have once := countP_chain hb.2.2.2 r
    simp only [Bench.uses, Entry.recipe.injEq, once]
    exact (Nat.zero_add _).symm
  | variant k => simp [Bench.uses, Bench.clearChain]; rfl
  | limits n => simp [Bench.uses, Bench.clearChain]
  | angle n => simp [Bench.uses, Bench.clearChain]; rfl

theorem Bench.releaseVariant_balanced (b : Bench) : b.Balanced e b.releaseVariant := by
  have sc := b.releaseVariant_sc
  have setup := (Bench.around_eq b.releaseVariant_around).2.2.2.2.1
  have rest : (∀ k, e ≠ .variant k) → b.releaseVariant.uses e = b.uses e := fun ne => by
    cases e with
    | variant k => exact absurd rfl (ne k)
    | recipe r => simp [Bench.uses, sc]
    | limits n => simp [Bench.uses]
    | angle n => simp [Bench.uses, setup]
  cases use : b.st.sc.variantUse with
  | false =>
    exact .same (by simp [Bench.releaseVariant, use]) (Bench.uses_congr e (by simp [sc, use])
      (by simp [sc]) (by simp [sc]) (by simp [Station.setInUse]) setup)
  | true =>
    cases slot : b.st.sc.variantSlot with
    | none =>
      refine .same (by simp [Bench.releaseVariant, use, slot]) ?_
      cases e with
      | variant k => simp [Bench.uses, sc, slot]
      | recipe r => exact rest (fun _ h => by cases h)
      | limits n => exact rest (fun _ h => by cases h)
      | angle n => exact rest (fun _ h => by cases h)
    | some k =>
      refine .lower (n := if e = .variant k then 1 else 0) ?_ ?_
      · rw [← Library.inUse_dropVariant]
        simp [Bench.releaseVariant, use, slot]
      · cases e with
        | variant j =>
          by_cases h : k = j
          · simp [Bench.uses, sc, use, slot, h]
          · simp [Bench.uses, sc, use, slot, h, Ne.symm h]
        | recipe r => simp [rest]
        | limits n => simp [rest]
        | angle n => simp [rest]

theorem Bench.enrol_lib (b : Bench) (slot : Nat) (v : Variant) (mode : RunMode) (serial : List Byte) :
    (b.enrol slot v mode serial).lib = (b.lib.useRecipe v.recipe).useVariant slot := by
  unfold Bench.enrol
  dsimp only
  obtain ⟨d, hd, -⟩ := Bench.follow_spec (Bench.setDc (((((b.setStore _).setSc _).setLib _).setMode _)) _)
  rw [hd]
  rfl

theorem chainHolds_cons (x : ChainEntry) (ch : List ChainEntry) (r : Nat) :
    chainHolds (x :: ch) r = (decide (x.recipe = r) || chainHolds ch r) := by
  simp [chainHolds]

/-- What chain moves leave of the uses of a station. -/
theorem Bench.uses_of_chain_move {b c : Bench} {x : Context} (sc : c.st.sc = x)
    (use : x.variantUse = b.st.sc.variantUse) (slot : x.variantSlot = b.st.sc.variantSlot)
    (set : c.st.setInUse = b.st.setInUse) (setup : c.setup = b.setup) (ne : ∀ r, e ≠ .recipe r) :
    c.uses e = b.uses e := by
  subst sc
  cases e with
  | recipe r => exact absurd rfl (ne r)
  | variant k => simp only [Bench.uses, use, slot]
  | limits n => rw [Bench.uses_limits, Bench.uses_limits, set]
  | angle n => rw [Bench.uses_angle, Bench.uses_angle, set, setup]

theorem Station.InStep.top_once {t : Station} {top : ChainEntry} {below : List ChainEntry} (h : t.InStep)
    (chain : t.sc.chain = top :: below) : chainHolds below top.recipe = false := by
  have nodup := h.2.2.2
  rw [chain] at nodup
  exact chainHolds_eq_false.2 (List.nodup_cons.1 nodup).1

/-- CHAIN: the recipe on top is left and the next one entered. -/
theorem Bench.swap_balanced {b : Bench} (hb : b.st.InStep) {r : Nat} {y : Recipe} {top : ChainEntry}
    {below : List ChainEntry} {x : Context} (there : entryAt b.lib.recipes r = some y)
    (chain : b.st.sc.chain = top :: below) (new : chainHolds below r = false)
    (hx : x.grip = { b.st.sc.grip with chain := ⟨r, top.ret⟩ :: below }) :
    b.Balanced e ((b.setLib (if top.recipe = r then b.lib
      else (b.lib.dropRecipe top.recipe).useRecipe r)).setSc x) := by
  have rest := Bench.uses_of_chain_move (e := e) (b := b) (c := (b.setLib (if top.recipe = r then b.lib
      else (b.lib.dropRecipe top.recipe).useRecipe r)).setSc x) rfl
    (Context.variantUse_of_grip hx) (Context.variantSlot_of_grip hx) rfl rfl
  have once := Station.InStep.top_once hb chain
  have after := Context.chain_of_grip hx
  by_cases same : top.recipe = r
  · refine .same (by simp [same]) ?_
    by_cases he : ∃ j, e = .recipe j
    · obtain ⟨j, rfl⟩ := he
      simp [Bench.uses, chain, after, chainHolds_cons, same]
    · exact rest (not_exists.1 he)
  · have there' : entryAt (b.lib.dropRecipe top.recipe).recipes r = some y := by
      simp [Library.dropRecipe, entryAt_entryMap, same, there]
    have lib := (b.lib.dropRecipe top.recipe).inUse_useRecipe e there'
    rw [Library.inUse_dropRecipe] at lib
    intro enough
    simp only [if_neg same] at rest ⊢
    rw [Bench.setSc_lib, Bench.setLib_lib, lib]
    by_cases he : ∃ j, e = .recipe j
    · obtain ⟨j, rfl⟩ := he
      simp only [Bench.uses, chain, chainHolds_cons] at enough
      simp only [Bench.uses, chain, after, chainHolds_cons, Bench.setSc_sc, Entry.recipe.injEq]
      by_cases ht : top.recipe = j
      · subst ht
        simp [once, same, Ne.symm same] at enough ⊢
        omega
      · by_cases hr : r = j
        · subst hr
          simp [new, same, Ne.symm same]
        · simp [ht, hr, Ne.symm ht, Ne.symm hr]
    · rw [rest (not_exists.1 he), if_neg (not_exists.1 he _), if_neg (not_exists.1 he _)]
      rfl

/-- A station that closes its record holds no chain and no point. -/
theorem Station.InStep.closes {t : Station} (h : t.InStep) (ended : t.sc.state = .finishing ∨
    t.sc.state = .stopping ∨ ((t.sc.segment = none ∨ t.sc.state = .held) ∧ t.sc.chain = [])) :
    t.sc.chain = [] ∧ t.point = none := by
  obtain finishing | stopping | ⟨none | held, chain⟩ := ended
  · exact ⟨h.chain_nil (by simp [finishing]) (by simp [finishing]),
      h.point_none (h.segment_none (by simp [finishing]))⟩
  · exact ⟨h.chain_nil (by simp [stopping]) (by simp [stopping]),
      h.point_none (h.segment_none (by simp [stopping]))⟩
  · exact ⟨chain, h.point_none none⟩
  · exact ⟨chain, h.point_none (h.segment_none (by simp [held]))⟩

theorem Bench.closeRecord_lib {b : Bench} (h : b.st.sc.state ≠ .idle) (silent : Bool) :
    (b.closeRecord silent).lib = b.releaseVariant.lib := by
  unfold Bench.closeRecord Bench.tellVerdict
  rw [if_neg h]
  dsimp only [Bench.becomeIdle, Bench.releaseVariant]
  split <;> split <;> simp_all

/-- A closed record's station uses nothing. -/
theorem Bench.closeRecord_uses {b : Bench} (h : b.st.sc.state ≠ .idle) (silent : Bool) (e : Entry) :
    (b.closeRecord silent).uses e = false := by
  have sc : (b.closeRecord silent).st.sc = Context.idle := by rw [Bench.closeRecord_sc, if_neg h]
  exact Bench.uses_of_none (by rw [sc]; rfl) (by rw [sc]; rfl) (Bench.closeRecord_point h silent) e

theorem Bench.closeRecord_balanced {b : Bench} (hb : b.st.InStep) (silent : Bool)
    (ended : b.st.sc.state = .finishing ∨ b.st.sc.state = .stopping ∨
      ((b.st.sc.segment = none ∨ b.st.sc.state = .held) ∧ b.st.sc.chain = [])) :
    b.Balanced e (b.closeRecord silent) := by
  by_cases idle : b.st.sc.state = .idle
  · rw [Bench.closeRecord, if_pos idle]
    exact .same rfl rfl
  · obtain ⟨chain, point⟩ := hb.closes ended
    have released : b.releaseVariant.uses e = false :=
      Bench.uses_of_none (by simp [Bench.releaseVariant_sc]) (by simp [Bench.releaseVariant_sc, chain])
        (by simp [point]) e
    intro enough
    have balance := b.releaseVariant_balanced enough
    rw [Bench.closeRecord_lib idle, Bench.closeRecord_uses idle, balance, released]

theorem Bench.enrol_balanced {b : Bench} (hb : b.st.InStep) {slot : Nat} {v : Variant} {y : Recipe}
    (mode : RunMode) (serial : List Byte) (idle : b.st.sc.state = .idle) (unused : b.uses e = false)
    (variant : entryAt b.lib.variants slot = some v) (recipe : entryAt b.lib.recipes v.recipe = some y) :
    b.Balanced e (b.enrol slot v mode serial) := by
  have point := (b.enrol_point slot v mode serial).trans
    (hb.point_none (hb.segment_none (by simp [idle])))
  have variant' : entryAt (b.lib.useRecipe v.recipe).variants slot = some v := variant
  intro _
  rw [Bench.enrol_lib, Library.inUse_useVariant _ e variant', Library.inUse_useRecipe _ e recipe, unused]
  have sc := b.enrol_sc slot v mode serial
  cases e with
  | variant k =>
    by_cases h : slot = k
    · subst h
      simp [Bench.uses, sc, admitContext]
    · simp [Bench.uses, sc, admitContext, h, Ne.symm h]
  | recipe r =>
    by_cases h : v.recipe = r
    · simp [Bench.uses, sc, admitContext, chainHolds, h]
    · simp [Bench.uses, sc, admitContext, chainHolds, h, Ne.symm h]
  | limits n => simp [Bench.uses, point]
  | angle n => simp [Bench.uses, point]

theorem Bench.Move.balanced {b c : Bench} (hb : b.st.InStep) (unused : b.Unused e) (h : b.Move c) :
    b.Balanced e c := by
  have setup := (Bench.around_eq h.around).2.2.2.2.1
  cases h with
  | enrol slot v x mode serial idle variant recipe =>
    exact Bench.enrol_balanced hb mode serial idle (unused idle) variant recipe
  | change h =>
    cases h with
    | quiet h => exact .same h.lib (Bench.uses_of_grip h.grip h.setInUse setup e)
    | segment g o => exact b.finishSegment_balanced g o
    | clear => exact Bench.clearChain_balanced hb
    | release => exact b.releaseVariant_balanced
    | coast | alarm => exact .same rfl (Bench.uses_congr e rfl rfl rfl rfl rfl)
    | stop _ _ _ hx | hold _ hx | wait _ _ hx | take _ _ hx =>
      exact .same rfl (Bench.uses_congr e (Context.variantUse_of_grip hx) (Context.variantSlot_of_grip hx)
        (Context.chain_of_grip hx) rfl rfl)
    | push r ret x step there new hx =>
      have rest := Bench.uses_of_chain_move (e := e) (b := b) (c := (b.setLib (b.lib.useRecipe r)).setSc _) rfl
        (Context.variantUse_of_grip hx) (Context.variantSlot_of_grip hx) rfl rfl
      refine .raise (p := e = .recipe r) (b.lib.inUse_useRecipe e there) ?_
      by_cases he : ∃ j, e = .recipe j
      · obtain ⟨j, rfl⟩ := he
        by_cases h : r = j
        · subst h
          simp [Bench.uses, Context.chain_of_grip hx, chainHolds_cons, new]
        · simp [Bench.uses, Context.chain_of_grip hx, chainHolds_cons, h, Ne.symm h]
      · rw [rest (not_exists.1 he), if_neg (not_exists.1 he r)]
        rfl
    | swap r x top below step there chain new hx =>
      exact Bench.swap_balanced hb there chain new hx
    | pop top below chain hx =>
      have rest := Bench.uses_of_chain_move (e := e) (b := b)
        (c := (b.setLib (b.lib.dropRecipe top.recipe)).setSc _) rfl
        (Context.variantUse_of_grip hx) (Context.variantSlot_of_grip hx) rfl rfl
      have once := Station.InStep.top_once hb chain
      refine .lower (b.lib.inUse_dropRecipe e top.recipe) ?_
      by_cases he : ∃ j, e = .recipe j
      · obtain ⟨j, rfl⟩ := he
        by_cases h : top.recipe = j
        · subst h
          simp [Bench.uses, chain, Context.chain_of_grip hx, chainHolds_cons, once]
        · simp [Bench.uses, chain, Context.chain_of_grip hx, chainHolds_cons, h, Ne.symm h]
      · rw [rest (not_exists.1 he), if_neg (not_exists.1 he _)]
        rfl
    | listen p g set table step kind limits angles hx =>
      have point := hb.point_none (step.segment_none hb)
      refine .raise (b.lib.inUse_useListen e limits angles) ?_
      cases e with
      | variant k => 
        simp [Bench.uses, Context.variantUse_of_grip hx, Context.variantSlot_of_grip hx, Context.grip]
      | recipe r => simp [Bench.uses, Context.chain_of_grip hx, Context.grip]
      | limits n =>
        by_cases h : p.limitSet = n
        · simp [Bench.uses, point, h]
        · simp [Bench.uses, point, h, Ne.symm h]
      | angle n =>
        by_cases h : b.setup.angleTable = n
        · simp [Bench.uses, point, h]
        · simp [Bench.uses, point, h, Ne.symm h]
    | close silent ended => exact Bench.closeRecord_balanced hb silent ended

end Sys2Proof.Machine
end

section
/-! SUPPORT. The in-use counts over the machine (O58). -/

namespace Sys2Proof.Machine

/-! ### Stations counted -/

theorem countP_allStations (f : StNo → Bool) :
    allStations.countP f = (f 0).toNat + (f 1).toNat + (f 2).toNat + (f 3).toNat := by
  have one : ∀ b : Bool, (if b = true then 1 else 0) = b.toNat := fun b => by cases b <;> rfl
  simp only [allStations, List.countP_cons, List.countP_nil, one]
  omega

/-- The count of a property that changes at one station. -/
theorem countP_change {f g : StNo → Bool} {i : StNo} (h : ∀ j, j ≠ i → g j = f j) :
    allStations.countP g + (f i).toNat = allStations.countP f + (g i).toNat := by
  rw [countP_allStations, countP_allStations]
  fin_cases i
  · rw [h 1 (by decide), h 2 (by decide), h 3 (by decide)]
    simp only [Fin.zero_eta]
    omega
  · rw [h 0 (by decide), h 2 (by decide), h 3 (by decide)]
    simp only [Fin.mk_one]
    omega
  · rw [h 0 (by decide), h 1 (by decide), h 3 (by decide)]
    simp only [Fin.reduceFinMk]
    omega
  · rw [h 0 (by decide), h 1 (by decide), h 2 (by decide)]
    simp only [Fin.reduceFinMk]
    omega

theorem toNat_le_countP (f : StNo → Bool) (i : StNo) : (f i).toNat ≤ allStations.countP f := by
  rw [countP_allStations]
  fin_cases i <;> simp only [Fin.zero_eta, Fin.mk_one, Fin.reduceFinMk] <;> omega

theorem countP_toList {α : Type} (q : Quad α) (p : α → Bool) :
    q.toList.countP p = allStations.countP fun i => p (q.get i) := by
  simp [Quad.toList, allStations, List.countP_cons, Quad.get]

/-- How many stations use an entry. -/
def State.users (s : State) (e : Entry) : Nat := allStations.countP fun i => (s.bench i).uses e

theorem State.users_recipe (s : State) (r : Nat) : s.users (.recipe r) = s.usersOf r :=
  (countP_toList s.stations fun t => chainHolds t.sc.chain r).symm

theorem State.users_variant (s : State) (k : Nat) : s.users (.variant k) = s.variantUsers k :=
  (countP_toList s.stations fun t => t.sc.variantUse && decide (t.sc.variantSlot = some k)).symm

theorem State.users_limits (s : State) (n : Nat) : s.users (.limits n) = s.limitUsers n := by
  simp only [State.users, Bench.uses_limits]
  exact (countP_toList s.stations fun t => decide (t.point.map Point.limitSet = some n)).symm

theorem State.users_angle (s : State) (n : Nat) : s.users (.angle n) = s.angleUsers n := rfl

/-- The in-use count of the entry is that of its users. -/
def State.Counts (s : State) (e : Entry) : Prop := s.lib.inUse e = s.users e

theorem State.recipeCounts_iff (s : State) :
    s.RecipeCounts ↔ s.InStep ∧ ∀ r, s.Counts (.recipe r) := by
  simp only [State.RecipeCounts, State.Counts, State.users_recipe]

/-- No IDLE station uses a variant. -/
def State.IdleFree (s : State) : Prop :=
  ∀ i, (s.stations.get i).sc.state = .idle → (s.stations.get i).sc.variantUse = false

theorem State.useCounts_iff (s : State) : s.UseCounts ↔ s.InStep ∧ s.IdleFree ∧
    (∀ k, s.Counts (.variant k)) ∧ (∀ n, s.Counts (.limits n)) ∧ ∀ n, s.Counts (.angle n) := by
  simp only [State.UseCounts, State.Counts, State.IdleFree, State.users_variant, State.users_limits,
    State.users_angle]

/-- An IDLE station in step uses at most a variant. -/
theorem Bench.unused_of_inStep {b : Bench} {e : Entry} (hb : b.st.InStep)
    (free : (∀ k, e ≠ .variant k) ∨ (b.st.sc.state = .idle → b.st.sc.variantUse = false)) :
    b.Unused e := by
  intro idle
  have chain := hb.chain_nil (by simp [idle]) (by simp [idle])
  have point := hb.point_none (hb.segment_none (by simp [idle]))
  cases e with
  | variant k =>
    obtain ne | free := free
    · exact absurd rfl (ne k)
    · simp [Bench.uses, free idle]
  | recipe r => simp [Bench.uses, chain, chainHolds]
  | limits n => simp [Bench.uses, point]
  | angle n => simp [Bench.uses, point]

/-! ### What a station's move keeps -/

theorem State.bench_putBench_self {s : State} {i : StNo} {c : Bench} (h : (s.bench i).Move c) :
    (s.putBench i c).bench i = c := State.putBench_bench_self h.around

/-- A bench at another station differs in tables, reports, flags and LINESTOP alone. -/
theorem State.uses_putBench_ne (s : State) {i j : StNo} (h : j ≠ i) (c : Bench) (e : Entry) :
    ((s.putBench i c).bench j).uses e = (s.bench j).uses e :=
  Bench.uses_of_grip (by simp [Quad.get_set_ne _ _ _ _ h]) (by simp [Quad.get_set_ne _ _ _ _ h])
    (by simp) e

theorem State.InStep.station {s : State} {i : StNo} {c : Bench} (hs : s.InStep)
    (h : (s.bench i).Move c) : (s.putBench i c).InStep := by
  intro j
  by_cases hj : j = i
  · subst hj
    rw [State.putBench_get]
    exact h.inStep (hs j)
  · rw [State.putBench_get_ne _ _ _ _ hj]
    exact hs j

theorem State.Counts.station {s : State} {i : StNo} {c : Bench} {e : Entry} (hs : s.InStep)
    (unused : (s.bench i).Unused e) (count : s.Counts e) (h : (s.bench i).Move c) :
    (s.putBench i c).Counts e := by
  have change := countP_change (f := fun j => (s.bench j).uses e)
    (g := fun j => ((s.putBench i c).bench j).uses e) (i := i) fun j hj => s.uses_putBench_ne hj c e
  have own : ((s.bench i).uses e).toNat ≤ s.users e := toNat_le_countP (fun j => (s.bench j).uses e) i
  have balance := h.balanced (hs i) unused (e := e) (by
    rw [State.bench_lib, count]
    exact own)
  simp only [State.bench_putBench_self h] at change
  unfold State.Counts State.users at *
  simp only [State.bench_lib, State.putBench_lib] at balance ⊢
  omega

/-- Only a close makes a station IDLE, and it ends the variant use. -/
theorem Bench.Move.idleFree {b c : Bench}
    (free : b.st.sc.state = .idle → b.st.sc.variantUse = false) (h : b.Move c)
    (idle : c.st.sc.state = .idle) : c.st.sc.variantUse = false := by
  cases h with
  | enrol slot v e mode serial =>
    rw [Bench.enrol_sc] at idle
    cases idle
  | change h =>
    cases h with
    | quiet h =>
      rw [Context.variantUse_of_grip h.grip]
      exact free ((Context.state_of_grip h.grip).symm.trans idle)
    | segment g o =>
      simp only [Bench.finishSegment_sc] at idle ⊢
      exact free idle
    | release => simp [Bench.releaseVariant_sc]
    | clear | coast | alarm => exact free idle
    | stop _ _ _ hx | hold _ hx | wait _ _ hx | take _ _ hx | listen _ _ _ _ _ _ _ _ hx =>
      have state := (Context.state_of_grip hx).symm.trans idle
      cases state
    | push _ _ _ _ _ _ hx | swap _ _ _ _ _ _ _ _ hx | pop _ _ _ hx =>
      exact (Context.variantUse_of_grip hx).trans (free ((Context.state_of_grip hx).symm.trans idle))
    | close silent =>
      rw [Bench.closeRecord_sc] at idle ⊢
      split
      next was => exact free was
      · rfl

theorem State.IdleFree.station {s : State} {i : StNo} {c : Bench} (hs : s.IdleFree)
    (h : (s.bench i).Move c) : (s.putBench i c).IdleFree := by
  intro j
  by_cases hj : j = i
  · subst hj
    rw [State.putBench_get]
    exact h.idleFree (hs j)
  · rw [State.putBench_get_ne _ _ _ _ hj]
    exact hs j

theorem State.RecipeCounts.station {s : State} {i : StNo} {c : Bench} (hs : s.RecipeCounts)
    (h : (s.bench i).Move c) : (s.putBench i c).RecipeCounts := by
  rw [State.recipeCounts_iff] at hs ⊢
  obtain ⟨inStep, counts⟩ := hs
  exact ⟨inStep.station h, fun r => (counts r).station inStep
    (Bench.unused_of_inStep (inStep i) (.inl fun _ h => by cases h)) h⟩

theorem State.UseCounts.station {s : State} {i : StNo} {c : Bench} (hs : s.UseCounts)
    (h : (s.bench i).Move c) : (s.putBench i c).UseCounts := by
  rw [State.useCounts_iff] at hs ⊢
  obtain ⟨inStep, free, variants, limits, angles⟩ := hs
  have unused : ∀ e, (s.bench i).Unused e := fun e => Bench.unused_of_inStep (inStep i) (.inr (free i))
  exact ⟨inStep.station h, free.station h, fun k => (variants k).station inStep (unused _) h,
    fun n => (limits n).station inStep (unused _) h, fun n => (angles n).station inStep (unused _) h⟩

/-! ### A forced write -/

theorem Bench.Leads.inStep {b c : Bench} (hb : b.st.InStep) (h : b.Leads c) : c.st.InStep := by
  induction h with
  | refl => exact hb
  | tail _ last ih => exact Bench.Move.inStep ih (.change last)

theorem StState.driving_eq_false {x : StState} (h : x.driving = false) : x ≠ .running ∧ x ≠ .held := by
  cases x <;> simp [StState.driving] at h ⊢

theorem Bench.forceOut_not_driving (b : Bench) : b.forceOut.st.sc.state.driving = false := by
  rw [Bench.forceOut, Bench.releaseVariant_sc]
  cases h : b.st.sc.state.driving with
  | true => simp [Bench.enterStopping_state .controlled .tableReplaced h, StState.driving]
  | false =>
    rw [Bench.enterStopping_of_not_driving _ _ h]
    exact h

/-- A station stopped or released by a forced write uses nothing. -/
theorem Bench.forceOut_uses {b : Bench} (hb : b.st.InStep) (e : Entry) : b.forceOut.uses e = false := by
  have inStep := Bench.Leads.inStep hb b.leads_forceOut
  obtain ⟨running, held⟩ := StState.driving_eq_false b.forceOut_not_driving
  refine Bench.uses_of_none ?_ (inStep.chain_nil running held)
    (inStep.point_none (inStep.segment_none running)) e
  rw [Bench.forceOut, Bench.releaseVariant_sc]

theorem forceStation_inStep (e : Entry) (i : StNo) {p : State × Nat} (h : p.1.InStep) :
    (forceStation e i p).1.InStep :=
  forceStation_keeps (fun _ _ _ hs h => State.InStep.station hs h) e i h

theorem State.bench_onStation_self {s : State} {i : StNo} {f : Bench → Bench}
    (h : (f (s.bench i)).around = (s.bench i).around) : (s.onStation i f).bench i = f (s.bench i) :=
  State.putBench_bench_self h

@[simp] theorem Bench.forceOut_around (b : Bench) : b.forceOut.around = b.around := by
  simp [Bench.forceOut]

theorem forceStation_uses_self (e : Entry) (i : StNo) {p : State × Nat} (h : p.1.InStep) :
    ((forceStation e i p).1.bench i).uses e = false := by
  unfold forceStation
  split
  · rw [State.bench_onStation_self (Bench.forceOut_around _)]
    exact Bench.forceOut_uses (h i) e
  next unused => exact Bool.eq_false_iff.2 unused

theorem forceStation_uses_ne (e e' : Entry) {i j : StNo} (h : j ≠ i) (p : State × Nat) :
    ((forceStation e i p).1.bench j).uses e' = (p.1.bench j).uses e' := by
  unfold forceStation
  split
  · exact State.uses_putBench_ne p.1 h _ e'
  · rfl

/-- No station uses the entry once its users have been stopped. -/
theorem forceUsers_uses (e : Entry) {s : State} (h : s.InStep) (i : StNo) :
    ((forceUsers e s).1.bench i).uses e = false := by
  have h0 : ((s, 0) : State × Nat).1.InStep := h
  have h1 := forceStation_inStep e 0 h0
  have h2 := forceStation_inStep e 1 h1
  have h3 := forceStation_inStep e 2 h2
  unfold forceUsers
  fin_cases i
  · exact (forceStation_uses_ne e e (by decide) _).trans ((forceStation_uses_ne e e (by decide) _).trans
      ((forceStation_uses_ne e e (by decide) _).trans (forceStation_uses_self e 0 h0)))
  · exact (forceStation_uses_ne e e (by decide) _).trans ((forceStation_uses_ne e e (by decide) _).trans
      (forceStation_uses_self e 1 h1))
  · exact (forceStation_uses_ne e e (by decide) _).trans (forceStation_uses_self e 2 h2)
  · exact forceStation_uses_self e 3 h3

theorem State.users_eq_zero {s : State} {e : Entry} (h : ∀ i, (s.bench i).uses e = false) :
    s.users e = 0 := by
  simp [State.users, h]

/-! ### What the machine's moves keep -/

theorem State.InStep.of_stations {s t : State} (hs : s.InStep)
    (h : ∀ i, (t.stations.get i).sc = (s.stations.get i).sc ∧
      (t.stations.get i).setInUse = (s.stations.get i).setInUse) : t.InStep :=
  fun i => (hs i).of_grip (by rw [(h i).1]) (h i).2

theorem State.reset_inStep : State.reset.InStep := by
  intro i
  rw [State.reset, Quad.get_all]
  exact .of_none rfl rfl (fun _ _ => rfl) List.nodup_nil

/-- A write of a setup leaves every station's uses. -/
theorem State.writeSetup_stations (s : State) (i : StNo) (mask : Nat) (body : List Byte) (j : StNo) :
    ((s.writeSetup i mask body).stations.get j).sc = (s.stations.get j).sc ∧
      ((s.writeSetup i mask body).stations.get j).setInUse = (s.stations.get j).setInUse := by
  by_cases hj : j = i
  · subst hj
    simp only [State.writeSetup, Quad.get_set]
    exact ⟨rfl, rfl⟩
  · simp only [State.writeSetup, Quad.get_set_ne _ _ _ _ hj, and_self]

theorem State.InStep.move {s t : State} (hs : s.InStep) (h : s.Move t) : t.InStep := by
  cases h with
  | station i h => exact hs.station h
  | calm h => exact hs.of_stations fun i => ⟨(h.stations i).sc, (h.stations i).setInUse⟩
  | setup i mask body => exact hs.of_stations (s.writeSetup_stations i mask body)
  | forced e w => exact forceUsers_keeps (fun _ _ _ hs h => State.InStep.station hs h) e hs
  | reset straps => exact State.reset_inStep
  | cell | table | part | release | clearLine => exact hs

theorem State.IdleFree.of_stations {s t : State} (hs : s.IdleFree)
    (h : ∀ i, (t.stations.get i).sc = (s.stations.get i).sc) : t.IdleFree := fun i => by
  rw [h i]
  exact hs i

/-- A station that does not listen uses no angle table, whichever its setup names. -/
theorem Bench.uses_of_table {b c : Bench} (sc : c.st.sc = b.st.sc) (set : c.st.setInUse = b.st.setInUse)
    (table : b.st.setInUse.isSome = true → c.setup.angleTable = b.setup.angleTable) (e : Entry) :
    c.uses e = b.uses e := by
  cases e with
  | variant k => unfold Bench.uses; rw [sc]
  | recipe r => unfold Bench.uses; rw [sc]
  | limits n => rw [Bench.uses_limits, Bench.uses_limits, set]
  | angle n =>
    rw [Bench.uses_angle, Bench.uses_angle, set]
    cases h : b.st.setInUse.isSome with
    | false => rfl
    | true => rw [table h]

/-- The uses of an entry after a setup write: an angle table is chosen anew while the station is IDLE
alone. -/
theorem State.writeSetup_uses {s : State} (hs : s.InStep) {i : StNo} {mask : Nat} {body : List Byte}
    (allowed : mask % 8192 = 0 ∨ (s.stations.get i).sc.state = .idle) (e : Entry) (j : StNo) :
    ((s.writeSetup i mask body).bench j).uses e = (s.bench j).uses e := by
  obtain ⟨sc, set⟩ := s.writeSetup_stations i mask body j
  refine Bench.uses_of_table sc set (fun listens => ?_) e
  by_cases hj : j = i
  · subst hj
    obtain unmarked | idle := allowed
    · simpa [State.writeSetup] using (Setup.write_unbound s.cell.absMaxSpeed body _ unmarked).2
    · simp [Station.setInUse, (hs j).point_none ((hs j).segment_none (by simp [idle]))] at listens
  · simp [State.writeSetup, Quad.get_set_ne _ _ _ _ hj]

theorem State.Counts.of_uses {s t : State} {e : Entry} (hs : s.Counts e) (lib : t.lib.inUse e = s.lib.inUse e)
    (uses : ∀ i, (t.bench i).uses e = (s.bench i).uses e) : t.Counts e := by
  unfold State.Counts State.users at *
  simp only [lib, uses, hs]

/-- A table write of an entry nobody uses keeps every count. -/
theorem State.Counts.write {s : State} {e e' : Entry} {w : Library → Library} (hw : Clears e' w)
    (unused : ∀ i, (s.bench i).uses e' = false) (hs : s.Counts e) :
    State.Counts { s with lib := w s.lib } e := by
  by_cases h : e = e'
  · subst h
    have none : State.users { s with lib := w s.lib } e = 0 := State.users_eq_zero fun i => unused i
    exact (hw.zero s.lib).trans none.symm
  · exact hs.of_uses (hw.others s.lib e h) fun _ => rfl

/-- An entry with count 0 has no users. -/
theorem State.Counts.unused {s : State} {e : Entry} (hs : s.Counts e) (free : s.lib.inUse e = 0) (i : StNo) :
    (s.bench i).uses e = false := by
  have own := toNat_le_countP (fun j => (s.bench j).uses e) i
  have zero : s.users e = 0 := hs.symm.trans free
  unfold State.users at zero
  rw [zero] at own
  cases h : (s.bench i).uses e with
  | false => rfl
  | true => simp [h] at own

/-- A later part of an angle table keeps its count. -/
theorem Library.inUse_part {l : Library} {k : Nat} {x y : AngleTable} (there : entryAt l.angles k = some x)
    (same : y.inUse = x.inUse) (e : Entry) :
    ({ l with angles := l.angles.set k (some y) } : Library).inUse e = l.inUse e := by
  cases e with
  | angle n =>
    by_cases h : n = k
    · subst h
      have inside : n < l.angles.length := by
        by_contra outside
        simp [entryAt, List.getElem?_eq_none (Nat.le_of_not_lt outside)] at there
      simp [Library.inUse, entryAt_set_self, inside, there, same]
    · simp [Library.inUse, entryAt_set_ne _ h]
  | _ => rfl

/-- What a move of the machine other than one that stops the users of an entry keeps of a count. -/
theorem State.Counts.move {s t : State} {e : Entry} (inStep : s.InStep) (hs : s.Counts e)
    (unused : ∀ i, (s.bench i).Unused e) (forced : ∀ e', (forceUsers e' s).1.Counts e)
    (reset : ∀ straps, State.Counts { State.reset with
      rp := RingPort.initial (addressOf straps), pending := s.pending } e) (h : s.Move t) : t.Counts e := by
  cases h with
  | station i h => exact hs.station inStep (unused i) h
  | calm h =>
    exact hs.of_uses (by rw [h.lib]) fun i =>
      Bench.uses_of_grip (congrArg Context.grip (h.stations i).sc) (h.stations i).setInUse
        (by simp [h.setups]) e
  | setup i mask body allowed => exact hs.of_uses rfl (State.writeSetup_uses inStep allowed e)
  | table e' w free hw =>
    by_cases same : e = e'
    · subst same
      exact hs.write hw (hs.unused free)
    · exact hs.of_uses (hw.others s.lib e same) fun _ => rfl
  | forced e' w hw => exact (forced e').write hw (forceUsers_uses e' inStep)
  | part k x y there same => exact hs.of_uses (Library.inUse_part there same e) fun _ => rfl
  | reset straps => exact reset straps
  | cell | release | clearLine => exact hs

theorem entryAt_replicate_none (α : Type) (n k : Nat) :
    entryAt (List.replicate n (none : Option α)) k = none := by
  rw [entryAt, List.getElem?_replicate]
  split <;> rfl

theorem Library.inUse_empty (e : Entry) : Library.empty.inUse e = 0 := by
  cases e <;> simp [Library.inUse, Library.empty, entryAt_replicate_none]

/-- After a reset nobody uses anything. -/
theorem State.counts_reset (e : Entry) (rp : RingPort) (cs : List Instr) :
    State.Counts { State.reset with rp := rp, pending := cs } e := by
  refine (Library.inUse_empty e).trans (State.users_eq_zero fun i => ?_).symm
  have initial : (State.bench { State.reset with rp := rp, pending := cs } i).st = Station.initial :=
    Quad.get_all _ i
  exact Bench.uses_of_none (by rw [initial]; rfl) (by rw [initial]; rfl) (by rw [initial]; rfl) e

theorem State.RecipeCounts.move {s t : State} (hs : s.RecipeCounts) (h : s.Move t) : t.RecipeCounts := by
  have forced : ∀ e', (forceUsers e' s).1.RecipeCounts := fun e' =>
    forceUsers_keeps (fun _ _ _ hs h => State.RecipeCounts.station hs h) e' hs
  rw [State.recipeCounts_iff] at hs ⊢
  obtain ⟨inStep, counts⟩ := hs
  exact ⟨inStep.move h, fun r => (counts r).move inStep
    (fun i => Bench.unused_of_inStep (inStep i) (.inl fun _ h => by cases h))
    (fun e' => ((State.recipeCounts_iff _).1 (forced e')).2 r) (fun _ => State.counts_reset _ _ _) h⟩

theorem State.IdleFree.move {s t : State} (hs : s.IdleFree) (h : s.Move t) : t.IdleFree := by
  cases h with
  | station i h => exact hs.station h
  | calm h => exact hs.of_stations fun i => (h.stations i).sc
  | setup i mask body => exact hs.of_stations fun j => (s.writeSetup_stations i mask body j).1
  | forced e w => exact forceUsers_keeps (fun _ _ _ hs h => State.IdleFree.station hs h) e hs
  | reset straps =>
    intro i _
    simp only [State.reset, Quad.get_all]
    rfl
  | cell | table | part | release | clearLine => exact hs

theorem State.UseCounts.move {s t : State} (hs : s.UseCounts) (h : s.Move t) : t.UseCounts := by
  have forced : ∀ e', (forceUsers e' s).1.UseCounts := fun e' =>
    forceUsers_keeps (fun _ _ _ hs h => State.UseCounts.station hs h) e' hs
  rw [State.useCounts_iff] at hs ⊢
  simp only [State.useCounts_iff] at forced
  obtain ⟨inStep, free, variants, limits, angles⟩ := hs
  have unused : ∀ e i, (s.bench i).Unused e := fun e i => Bench.unused_of_inStep (inStep i) (.inr (free i))
  have reset := fun e straps => State.counts_reset e (RingPort.initial (addressOf straps)) s.pending
  refine ⟨inStep.move h, free.move h, fun k => ?_, fun n => ?_, fun n => ?_⟩
  · exact (variants k).move inStep (unused _) (fun e' => (forced e').2.2.1 k) (reset _) h
  · exact (limits n).move inStep (unused _) (fun e' => (forced e').2.2.2.1 n) (reset _) h
  · exact (angles n).move inStep (unused _) (fun e' => (forced e').2.2.2.2 n) (reset _) h

/-- Settles O58: every move of the machine keeps the counts those of the users, chains without a repeated
recipe being what makes one use one count. -/
theorem stepKeepsRecipeCounts : Obligations.StepKeepsRecipeCounts :=
  ⟨fun _ _ _ => ⟨rfl, rfl, rfl, rfl, rfl⟩,
    fun _ _ hs h => step_keeps (fun _ _ hs h => State.RecipeCounts.move hs h) hs h,
    fun _ _ hs h => step_keeps (fun _ _ hs h => State.UseCounts.move hs h) hs h⟩

end Sys2Proof.Machine
end

section
/-! SUPPORT. The id of the next record (O53). -/

namespace Sys2Proof.Machine

/-- What is found stands in a slot and has the id. -/
theorem findRecord_spec {slots : List (Option Record)} {n : Nat} {q : Record}
    (h : findRecord slots n = some q) : ∃ k : Nat, slots[k]? = some (some q) ∧ q.id = n := by
  induction slots with
  | nil => cases h
  | cons o rest ih =>
    cases o with
    | none =>
      obtain ⟨k, hk⟩ := ih h
      exact ⟨k + 1, hk⟩
    | some r =>
      unfold findRecord at h
      split at h
      next hr =>
        cases h
        exact ⟨0, rfl, hr⟩
      · obtain ⟨k, hk⟩ := ih h
        exact ⟨k + 1, hk⟩

/-- Where a slot holds the id, a record is found. -/
theorem findRecord_of_mem {slots : List (Option Record)} {k : Nat} {q : Record}
    (h : slots[k]? = some (some q)) : ∃ p, findRecord slots q.id = some p := by
  induction slots generalizing k with
  | nil => cases h
  | cons o rest ih =>
    cases o with
    | none =>
      cases k with
      | zero => cases h
      | succ k => exact ih h
    | some r =>
      unfold findRecord
      split
      · exact ⟨r, rfl⟩
      next hr =>
        cases k with
        | zero =>
          cases h
          exact absurd rfl hr
        | succ k => exact ih h

theorem findRecord_isSome_iff (slots : List (Option Record)) (n : Nat) :
    (findRecord slots n).isSome = true ↔ ∃ (k : Nat) (q : Record), slots[k]? = some (some q) ∧ q.id = n := by
  rw [Option.isSome_iff_exists]
  constructor
  · rintro ⟨q, hq⟩
    obtain ⟨k, hk, hid⟩ := findRecord_spec hq
    exact ⟨k, q, hk, hid⟩
  · rintro ⟨k, q, hk, rfl⟩
    exact findRecord_of_mem hk

theorem Store.holds_iff (t : Store) (n : Nat) :
    t.holds n = true ↔ ∃ (k : Nat) (q : Record), t.slots[k]? = some (some q) ∧ q.id = n :=
  findRecord_isSome_iff t.slots n

/-- A count that the next record does not take. -/
def Store.Taken (t : Store) (c : Nat) : Prop := c = 0 ∨ t.holds c = true

theorem nextCount_eq {c : Nat} (h : c ≤ 65535) : nextCount c = (c + 1) % 65536 := by
  unfold nextCount
  split <;> omega

theorem settleId_taken {t : Store} {c : Nat} (h : t.Taken c) (n : Nat) :
    settleId t (n + 1) c = settleId t n (nextCount c) := if_pos h

theorem settleId_free {t : Store} {c : Nat} (h : ¬ t.Taken c) (n : Nat) : settleId t (n + 1) c = c :=
  if_neg h

/-- `settleId` passes the counts that are taken, as many as it may. -/
theorem settleId_spec (t : Store) (c n a : Nat) : ∃ d, d ≤ n ∧
    settleId t n ((c + a) % 65536) = (c + a + d) % 65536 ∧
    (∀ e, e < d → t.Taken ((c + a + e) % 65536)) ∧ (d < n → ¬ t.Taken ((c + a + d) % 65536)) := by
  induction n generalizing a with
  | zero => exact ⟨0, Nat.le_refl 0, rfl, by simp, by simp⟩
  | succ n ih =>
    by_cases taken : t.Taken ((c + a) % 65536)
    · obtain ⟨d, hd, settles, passed, stop⟩ := ih (a + 1)
      have next : nextCount ((c + a) % 65536) = (c + (a + 1)) % 65536 := by
        rw [nextCount_eq (by omega)]
        omega
      refine ⟨d + 1, Nat.succ_le_succ hd, ?_, fun e he => ?_, fun h => ?_⟩
      · rw [settleId_taken taken, next, settles]
        congr 1
        omega
      · cases e with
        | zero => exact taken
        | succ e => 
          have := passed e (Nat.lt_of_succ_lt_succ he)
          rwa [show c + (a + 1) + e = c + a + (e + 1) by omega] at this
      · have := stop (Nat.lt_of_succ_lt_succ h)
        rwa [show c + (a + 1) + d = c + a + (d + 1) by omega] at this
    · exact ⟨0, Nat.zero_le _, by rw [settleId_free taken, Nat.add_zero], by simp, fun _ => taken⟩

/-- The ids held. -/
def Store.ids (t : Store) : List Nat := t.slots.filterMap (Option.map Record.id)

theorem Store.mem_ids {t : Store} {n : Nat} (h : t.holds n = true) : n ∈ t.ids := by
  obtain ⟨k, q, hk, rfl⟩ := (t.holds_iff n).1 h
  exact List.mem_filterMap.2 ⟨some q, List.mem_of_getElem? hk, rfl⟩

theorem Store.ids_length_lt {t : Store} {k : Nat} (free : t.slots[k]? = some none) :
    t.ids.length < t.slots.length := by
  refine lt_of_le_of_ne (List.length_filterMap_le _ _) fun all => ?_
  have := List.filterMap_length_eq_length.1 all none (List.mem_of_getElem? free)
  cases this

/-- Of 17 counts in a row one is not taken, where a slot of at most 16 is FREE. -/
theorem Store.exists_not_taken {t : Store} (size : t.slots.length ≤ 16) {k : Nat}
    (free : t.slots[k]? = some none) (c : Nat) : ∃ e, e < 17 ∧ ¬ t.Taken ((c + e) % 65536) := by
  by_contra none
  push Not at none
  have maps : ∀ e ∈ Finset.range 17, (c + e) % 65536 ∈ (0 :: t.ids).toFinset := fun e he => by
    obtain zero | held := none e (Finset.mem_range.1 he)
    · simp [zero]
    · simp [Store.mem_ids held]
  have few : (0 :: t.ids).toFinset.card < (Finset.range 17).card := by
    have := List.toFinset_card_le (0 :: t.ids)
    have := Store.ids_length_lt free
    simp only [List.length_cons, Finset.card_range] at *
    omega
  obtain ⟨x, hx, y, hy, ne, same⟩ := Finset.exists_ne_map_eq_of_card_lt_of_maps_to few maps
  have := Finset.mem_range.1 hx
  have := Finset.mem_range.1 hy
  omega

/-- Settles O53: `settleId` passes taken counts alone, and of 17 in a row one is not taken. -/
theorem nextIdIsFresh : Obligations.NextIdIsFresh := by
  refine ⟨Store.holds_iff, fun t size ⟨k, free⟩ range => ?_⟩
  obtain ⟨d, hd, settles, passed, stop⟩ := settleId_spec t t.idCounter 17 1
  obtain ⟨e, he, fresh⟩ := Store.exists_not_taken size free (t.idCounter + 1)
  have within : d < 17 := by
    by_contra last
    exact fresh (passed e (by omega))
  have id : t.nextId = (t.idCounter + (d + 1)) % 65536 := by
    rw [Store.nextId, nextCount_eq range, settles]
    congr 1
    omega
  have free := stop within
  rw [show t.idCounter + 1 + d = t.idCounter + (d + 1) by omega, ← id] at free
  refine ⟨d + 1, by omega, by omega, id, fun zero => free (.inl zero), ?_, fun e h1 h2 => ?_⟩
  · exact Bool.eq_false_iff.2 fun held => free (.inr held)
  · have taken := passed (e - 1) (by omega)
    rwa [show t.idCounter + 1 + (e - 1) = t.idCounter + e by omega] at taken

end Sys2Proof.Machine
end

section
/-! SUPPORT. Records and stations in agreement, and every move keeps them so (O59). -/

namespace Sys2Proof.Machine

/-! ### Slots -/

/-- The slots after an entry: the same records, `f` applied to the OPEN one of the id. -/
theorem mapOpen_at {slots : List (Option Record)} {id : Nat} {f : Record → Record} {k : Nat} {r : Record} :
    (mapOpen slots id f)[k]? = some (some r) ↔ ∃ q, slots[k]? = some (some q) ∧
      r = if q.id = id ∧ q.closed = false then f q else q := by
  rw [mapOpen_eq, List.getElem?_map]
  cases slots[k]? with
  | none => simp
  | some o =>
    cases o with
    | none => simp [openSlot]
    | some q =>
      by_cases h : q.id = id ∧ q.closed = false
      · simpa [openSlot, h] using eq_comm
      · simpa only [openSlot, Option.map_some, if_neg h, Option.some.injEq, exists_eq_left'] using eq_comm

theorem firstFree_spec {slots : List (Option Record)} {k : Nat} (h : firstFree slots = some k) :
    slots[k]? = some none := by
  obtain ⟨hk, free, -⟩ := List.findIdx?_eq_some_iff_getElem.1 h
  rw [List.getElem?_eq_getElem hk]
  exact congrArg some (Option.isNone_iff_eq_none.1 free)

theorem Store.openRecord_of_free {t : Store} {k : Nat} (h : firstFree t.slots = some k) (i : StNo)
    (code top : Nat) (serial : List Byte) (now : Word) : t.openRecord i code top serial now =
      { t with
        slots := t.slots.set k (some (newRecord t.nextId i code top serial now)), idCounter := t.nextId } := by
  simp [Store.openRecord, h]

/-- A slot written: the new content there, the old ones elsewhere. -/
theorem set_at {slots : List (Option Record)} {k : Nat} (inside : k < slots.length) (x : Record) {j : Nat}
    {r : Record} : (slots.set k (some x))[j]? = some (some r) ↔
      (j = k ∧ r = x) ∨ (j ≠ k ∧ slots[j]? = some (some r)) := by
  by_cases h : j = k
  · subst h
    simp [List.getElem?_set_self inside, eq_comm]
  · simp [List.getElem?_set_ne (Ne.symm h), h]

/-- The slots after a release: the records but the CLOSED one of the id. -/
theorem Store.release_at {t : Store} {id k : Nat} {r : Record} :
    (t.release id).At k r ↔ t.At k r ∧ ¬ (r.id = id ∧ r.closed = true) := by
  unfold Store.At Store.release
  rw [List.getElem?_map]
  cases t.slots[k]? with
  | none => simp
  | some o =>
    cases o with
    | none => simp
    | some q =>
      by_cases h : q.id = id ∧ q.closed = true
      · simp only [Option.map_some, if_pos h]
        constructor
        · rintro ⟨⟩
        · rintro ⟨⟨⟩, hn⟩
          exact absurd h hn
      · simp only [Option.map_some, if_neg h]
        constructor
        · rintro ⟨⟩
          exact ⟨rfl, h⟩
        · rintro ⟨h, -⟩
          exact h

/-! ### Agreement -/

/-- The store agrees with what ids the stations hold OPEN. -/
structure Store.Agrees (t : Store) (held : StNo → Option Nat) : Prop where
  size : t.slots.length = 16
  counter : t.idCounter ≤ 65535
  range : ∀ k r, t.At k r → 1 ≤ r.id ∧ r.id ≤ 65535
  distinct : ∀ j k q r, t.At j q → t.At k r → q.id = r.id → j = k
  opened : ∀ i id, held i = some id → ∃ k r, t.At k r ∧ r.closed = false ∧ r.id = id ∧ r.station = i
  owned : ∀ k r, t.At k r → r.closed = false → held r.station = some r.id
  nodup : t.closeQueue.Nodup
  queue : ∀ id, id ∈ t.closeQueue ↔ ∃ k r, t.At k r ∧ r.closed = true ∧ r.id = id

/-- The id a station holds OPEN. -/
def Station.held (t : Station) : Option Nat := if t.sc.state = .idle then none else some t.sc.recordId

theorem Station.held_eq_some {t : Station} {id : Nat} :
    t.held = some id ↔ t.sc.state ≠ .idle ∧ t.sc.recordId = id := by
  unfold Station.held
  split <;> simp_all

theorem Station.held_of_sc {t u : Station} (state : u.sc.state = t.sc.state)
    (id : u.sc.recordId = t.sc.recordId) : u.held = t.held := by
  simp [Station.held, state, id]

theorem State.recordsAgree_iff (s : State) :
    s.RecordsAgree ↔ s.store.Agrees fun i => (s.stations.get i).held := by
  constructor
  · rintro ⟨size, counter, range, distinct, opened, owned, nodup, queue⟩
    refine ⟨size, counter, range, distinct, fun i id h => ?_, fun k r at_ isOpen => ?_, nodup, queue⟩
    · obtain ⟨busy, rfl⟩ := Station.held_eq_some.1 h
      exact opened i busy
    · exact Station.held_eq_some.2 (owned k r at_ isOpen)
  · rintro ⟨size, counter, range, distinct, opened, owned, nodup, queue⟩
    exact ⟨size, counter, range, distinct,
      fun i busy => opened i _ (Station.held_eq_some.2 ⟨busy, rfl⟩),
      fun k r at_ isOpen => Station.held_eq_some.1 (owned k r at_ isOpen), nodup, queue⟩

namespace Store.Agrees

variable {t : Store} {held : StNo → Option Nat}

/-- Two stores with the same ids, stations and states slot by slot agree with the same stations. -/
theorem of_slots {u : Store} (h : t.Agrees held) (size : u.slots.length = t.slots.length)
    (counter : u.idCounter = t.idCounter) (queue : u.closeQueue = t.closeQueue)
    (down : ∀ k r, u.At k r → ∃ q, t.At k q ∧ r.id = q.id ∧ r.station = q.station ∧ r.closed = q.closed)
    (up : ∀ k q, t.At k q → ∃ r, u.At k r ∧ r.id = q.id ∧ r.station = q.station ∧ r.closed = q.closed) :
    u.Agrees held where
  size := size.trans h.size
  counter := counter ▸ h.counter
  range k r at_ := by
    obtain ⟨q, hq, id, -, -⟩ := down k r at_
    exact id ▸ h.range k q hq
  distinct j k q r hq hr same := by
    obtain ⟨q', hq', idq, -, -⟩ := down j q hq
    obtain ⟨r', hr', idr, -, -⟩ := down k r hr
    exact h.distinct j k q' r' hq' hr' (by rw [← idq, ← idr, same])
  opened i id hi := by
    obtain ⟨k, q, hq, isOpen, hid, hst⟩ := h.opened i id hi
    obtain ⟨r, hr, id', station, closed⟩ := up k q hq
    exact ⟨k, r, hr, closed.trans isOpen, id'.trans hid, station.trans hst⟩
  owned k r hr isOpen := by
    obtain ⟨q, hq, id, station, closed⟩ := down k r hr
    rw [station, id]
    exact h.owned k q hq (closed ▸ isOpen)
  nodup := queue ▸ h.nodup
  queue id := by
    rw [queue, h.queue]
    constructor
    · rintro ⟨k, q, hq, closed, hid⟩
      obtain ⟨r, hr, id', -, closed'⟩ := up k q hq
      exact ⟨k, r, hr, closed'.trans closed, id'.trans hid⟩
    · rintro ⟨k, r, hr, closed, hid⟩
      obtain ⟨q, hq, id', -, closed'⟩ := down k r hr
      exact ⟨k, q, hq, closed' ▸ closed, id' ▸ hid⟩

theorem onOpen (h : t.Agrees held) {f : Record → Record} (hf : KeepsIdentity f) (id : Nat) :
    (t.onOpen id f).Agrees held := by
  refine h.of_slots (mapOpen_length _ _ _) rfl rfl (fun k r hr => ?_) (fun k q hq => ?_)
  · obtain ⟨q, hq, rfl⟩ := mapOpen_at.1 hr
    refine ⟨q, hq, ?_⟩
    split
    · exact hf q
    · exact ⟨rfl, rfl, rfl⟩
  · refine ⟨_, mapOpen_at.2 ⟨q, hq, rfl⟩, ?_⟩
    split
    · exact hf q
    · exact ⟨rfl, rfl, rfl⟩

theorem written {u : Store} (h : t.Agrees held) {id : Nat} (hw : Store.Written id t u) : u.Agrees held := by
  obtain ⟨f, hf, rfl⟩ := hw
  exact h.onOpen hf id

/-- The OPEN record of an id held is found. -/
theorem verdictAtClose (h : t.Agrees held) {i : StNo} {id : Nat} (hi : held i = some id)
    (reason : Option StopReason) : ∃ k r, t.At k r ∧ r.closed = false ∧ r.id = id ∧ r.station = i ∧
      findRecord t.slots id = some r ∧ t.verdictAtClose id reason = some (verdictOf r.basis reason) := by
  obtain ⟨k, r, hr, isOpen, hid, hst⟩ := h.opened i id hi
  obtain ⟨p, hp⟩ := findRecord_of_mem hr
  obtain ⟨j, hj, same⟩ := findRecord_spec hp
  obtain rfl := h.distinct j k p r hj hr same
  have rp : r = p := by
    have both : some (some r) = some (some p) := hr.symm.trans hj
    simpa using both
  subst rp
  rw [hid] at hp
  exact ⟨j, r, hr, isOpen, hid, hst, hp, by simp [Store.verdictAtClose, hp, isOpen]⟩

theorem closeRecord_eq (h : t.Agrees held) {i : StNo} {id : Nat} (hi : held i = some id) (now : Word)
    (reason : Option StopReason) : t.closeRecord id now reason =
      { t with slots := mapOpen t.slots id (Record.close now reason), closeQueue := t.closeQueue ++ [id] } := by
  obtain ⟨_, _, _, _, _, _, _, verdict⟩ := h.verdictAtClose hi reason
  simp [Store.closeRecord, verdict]

/-- A close takes the id from its station and queues it. -/
theorem closeRecord (h : t.Agrees held) {i : StNo} {id : Nat} (hi : held i = some id) (now : Word)
    (reason : Option StopReason) : (t.closeRecord id now reason).Agrees (Function.update held i none) := by
  rw [h.closeRecord_eq hi]
  obtain ⟨k₀, r₀, at₀, open₀, id₀, station₀⟩ := h.opened i id hi
  have only : ∀ k r, t.At k r → r.id = id → k = k₀ ∧ r = r₀ := fun k r hr hid => by
    obtain rfl := h.distinct k k₀ r r₀ hr at₀ (hid.trans id₀.symm)
    have both : some (some r) = some (some r₀) := hr.symm.trans at₀
    exact ⟨rfl, by simpa using both⟩
  refine ⟨(mapOpen_length _ _ _).trans h.size, h.counter, fun k r hr => ?_, fun j k q r hq hr same => ?_,
    fun j n hj => ?_, fun k r hr isOpen => ?_, ?_, fun n => ?_⟩
  · obtain ⟨q, hq, rfl⟩ := mapOpen_at.1 hr
    split <;> exact h.range k q hq
  · obtain ⟨q', hq', rfl⟩ := mapOpen_at.1 hq
    obtain ⟨r', hr', rfl⟩ := mapOpen_at.1 hr
    refine h.distinct j k q' r' hq' hr' ?_
    split at same <;> split at same <;> exact same
  · by_cases hji : j = i
    · subst hji
      simp at hj
    · rw [Function.update_of_ne hji] at hj
      obtain ⟨k, r, hr, isOpen, hid, hst⟩ := h.opened j n hj
      have ne : r.id ≠ id := fun same => by
        obtain ⟨-, rfl⟩ := only k r hr same
        exact hji (hst.symm.trans station₀)
      exact ⟨k, r, mapOpen_at.2 ⟨r, hr, by rw [if_neg fun h => ne h.1]⟩, isOpen, hid, hst⟩
  · obtain ⟨q, hq, rfl⟩ := mapOpen_at.1 hr
    split at isOpen
    · cases isOpen
    next other =>
      rw [if_neg other]
      have owner := h.owned k q hq isOpen
      have ne : q.station ≠ i := fun same => by
        rw [same, hi] at owner
        exact other ⟨(Option.some.inj owner).symm, isOpen⟩
      rw [Function.update_of_ne ne]
      exact owner
  · refine List.nodup_append.2 ⟨h.nodup, List.nodup_singleton id, fun a ha b hb same => ?_⟩
    obtain rfl := List.mem_singleton.1 hb
    subst same
    obtain ⟨k, r, hr, closed, hid⟩ := (h.queue a).1 ha
    obtain ⟨-, rfl⟩ := only k r hr hid
    simp [open₀] at closed
  · rw [List.mem_append, List.mem_singleton, h.queue]
    constructor
    · rintro (⟨k, r, hr, closed, hid⟩ | rfl)
      · exact ⟨k, r, mapOpen_at.2 ⟨r, hr, by simp [closed]⟩, closed, hid⟩
      · exact ⟨k₀, Record.close now reason r₀, mapOpen_at.2 ⟨r₀, at₀, by rw [if_pos ⟨id₀, open₀⟩]⟩, rfl, id₀⟩
    · rintro ⟨k, r, hr, closed, hid⟩
      obtain ⟨q, hq, rfl⟩ := mapOpen_at.1 hr
      split at hid
      next own => exact .inr (hid.symm.trans own.1)
      next other =>
        rw [if_neg other] at closed
        exact .inl ⟨k, q, hq, closed, hid⟩

/-- A record opened takes a fresh id for its station. -/
theorem openRecord (h : t.Agrees held) {i : StNo} (hi : held i = none)
    (free : (firstFree t.slots).isSome = true) (code top : Nat) (serial : List Byte) (now : Word) :
    (t.openRecord i code top serial now).Agrees (Function.update held i (some t.nextId)) := by
  obtain ⟨k₀, hk₀⟩ := Option.isSome_iff_exists.1 free
  have at₀ := firstFree_spec hk₀
  have inside : k₀ < t.slots.length := (List.getElem?_eq_some_iff.1 at₀).1
  rw [Store.openRecord_of_free hk₀]
  obtain ⟨d, -, -, id, ne, fresh, -⟩ := nextIdIsFresh.2 t (Nat.le_of_eq h.size) ⟨k₀, at₀⟩ h.counter
  have bound : 1 ≤ t.nextId ∧ t.nextId ≤ 65535 := by omega
  have new : ∀ k r, t.At k r → r.id ≠ t.nextId := fun k r hr same => by
    have held := (t.holds_iff _).2 ⟨k, r, hr, same⟩
    simp [fresh] at held
  have notFree : ∀ k r, t.At k r → k ≠ k₀ := fun k r hr same => by
    have both : some (some r) = some none := hr.symm.trans (same ▸ at₀)
    simp at both
  refine ⟨List.length_set.trans h.size, bound.2, fun k r hr => ?_, fun j k q r hq hr same => ?_,
    fun j n hj => ?_, fun k r hr isOpen => ?_, h.nodup, fun n => ?_⟩
  · obtain ⟨rfl, rfl⟩ | ⟨-, hr⟩ := (set_at inside _).1 hr
    · exact bound
    · exact h.range k r hr
  · obtain ⟨rfl, rfl⟩ | ⟨-, hq'⟩ := (set_at inside _).1 hq
    · obtain ⟨rfl, -⟩ | ⟨-, hr'⟩ := (set_at inside _).1 hr
      · rfl
      · exact absurd same.symm (new k r hr')
    · obtain ⟨rfl, rfl⟩ | ⟨-, hr'⟩ := (set_at inside _).1 hr
      · exact absurd same (new j q hq')
      · exact h.distinct j k q r hq' hr' same
  · by_cases hji : j = i
    · subst hji
      simp only [Function.update_self, Option.some.injEq] at hj
      exact ⟨k₀, _, (set_at inside _).2 (.inl ⟨rfl, rfl⟩), rfl, hj, rfl⟩
    · rw [Function.update_of_ne hji] at hj
      obtain ⟨k, r, hr, rest⟩ := h.opened j n hj
      exact ⟨k, r, (set_at inside _).2 (.inr ⟨notFree k r hr, hr⟩), rest⟩
  · obtain ⟨rfl, rfl⟩ | ⟨-, hr⟩ := (set_at inside _).1 hr
    · exact Function.update_self ..
    · have owner := h.owned k r hr isOpen
      have ne : r.station ≠ i := fun same => by simp [same, hi] at owner
      rw [Function.update_of_ne ne]
      exact owner
  · rw [h.queue]
    constructor
    · rintro ⟨k, r, hr, rest⟩
      exact ⟨k, r, (set_at inside _).2 (.inr ⟨notFree k r hr, hr⟩), rest⟩
    · rintro ⟨k, r, hr, closed, hid⟩
      obtain ⟨rfl, rfl⟩ | ⟨-, hr⟩ := (set_at inside _).1 hr
      · cases closed
      · exact ⟨k, r, hr, closed, hid⟩

theorem release (h : t.Agrees held) (id : Nat) : (t.release id).Agrees held := by
  refine ⟨by simpa [Store.release] using h.size, h.counter, fun k r hr => h.range k r (Store.release_at.1 hr).1,
    fun j k q r hq hr => h.distinct j k q r (Store.release_at.1 hq).1 (Store.release_at.1 hr).1,
    fun i n hi => ?_, fun k r hr => h.owned k r (Store.release_at.1 hr).1, h.nodup.filter _, fun n => ?_⟩
  · obtain ⟨k, r, hr, isOpen, rest⟩ := h.opened i n hi
    exact ⟨k, r, Store.release_at.2 ⟨hr, by simp [isOpen]⟩, isOpen, rest⟩
  · have queue : n ∈ (t.release id).closeQueue ↔ n ∈ t.closeQueue ∧ n ≠ id := by
      simp [Store.release]
    rw [queue, h.queue]
    constructor
    · rintro ⟨⟨k, r, hr, closed, rfl⟩, ne⟩
      exact ⟨k, r, Store.release_at.2 ⟨hr, fun own => ne own.1⟩, closed, rfl⟩
    · rintro ⟨k, r, hr, closed, rfl⟩
      obtain ⟨hr, other⟩ := Store.release_at.1 hr
      exact ⟨⟨k, r, hr, closed, rfl⟩, fun own => other ⟨own, closed⟩⟩

end Store.Agrees

/-! ### Moves -/

/-- What a move of a station makes of the store and of the id held there. -/
theorem Bench.Move.agrees {b c : Bench} (h : b.Move c) {held : StNo → Option Nat} {i : StNo}
    (me : b.me = i) (own : held i = b.st.held) (hb : b.store.Agrees held) :
    c.store.Agrees (Function.update held i c.st.held) := by
  have same : ∀ {u : Store}, u.Agrees held → c.st.sc.state = b.st.sc.state →
      c.st.sc.recordId = b.st.sc.recordId → u.Agrees (Function.update held i c.st.held) :=
    fun hu state id => by
      rw [Station.held_of_sc state id, ← own, Function.update_eq_self]
      exact hu
  have busy : c.store = b.store → c.st.sc.recordId = b.st.sc.recordId → b.st.sc.state ≠ .idle →
      c.st.sc.state ≠ .idle → c.store.Agrees (Function.update held i c.st.held) :=
    fun store id hb' hc => by
      have keeps : c.st.held = b.st.held := by simp [Station.held, hb', hc, id]
      rw [store, keeps, ← own, Function.update_eq_self]
      exact hb
  cases h with
  | enrol slot v e mode serial idle variant recipe free =>
    have store : (b.enrol slot v mode serial).store =
        b.store.openRecord b.me v.code v.recipe serial b.now := by
      unfold Bench.enrol
      dsimp only
      obtain ⟨d, hd, -⟩ := Bench.follow_spec (Bench.setDc (((((b.setStore _).setSc _).setLib _).setMode _)) _)
      rw [hd]
      rfl
    have now : (b.enrol slot v mode serial).st.held = some b.store.nextId := by
      rw [Station.held_eq_some, Bench.enrol_sc]
      exact ⟨by simp [admitContext], rfl⟩
    rw [store, now, me]
    exact hb.openRecord (own.trans (by simp [Station.held, idle])) free _ _ _ _
  | change h =>
    cases h with
    | quiet h =>
      exact same (hb.written h.store) (Context.state_of_grip h.grip) (Context.recordId_of_grip h.grip)
    | segment g o =>
      have store : (b.finishSegment g o).store =
          b.store.onOpen b.st.sc.recordId (Record.addSegment (b.segResult g o)) := by
        unfold Bench.finishSegment Bench.endListen
        dsimp only
        split <;> rfl
      rw [store]
      exact same (hb.onOpen (addSegment_keepsIdentity _) _) (by simp) (by simp)
    | release =>
      have store : b.releaseVariant.store = b.store := by
        unfold Bench.releaseVariant
        split <;> rfl
      rw [store]
      exact same hb (by simp [Bench.releaseVariant_sc]) (by simp [Bench.releaseVariant_sc])
    | clear | coast | alarm => exact same hb rfl rfl
    | stop driving _ _ hx =>
      exact busy rfl (Context.recordId_of_grip hx) (fun h => by simp [h, StState.driving] at driving)
        (by simp [Context.state_of_grip hx])
    | hold step hx | wait step _ hx | take _ step hx | listen _ _ _ _ step _ _ _ hx =>
      refine busy rfl (Context.recordId_of_grip hx) (fun idle => ?_) (by simp [Context.state_of_grip hx])
      obtain ⟨run, -⟩ | held := step
      · simp [run] at idle
      · simp [held] at idle
    | push _ _ _ _ _ _ hx | swap _ _ _ _ _ _ _ _ hx | pop _ _ _ hx =>
      exact same hb (Context.state_of_grip hx) (Context.recordId_of_grip hx)
    | close silent =>
      by_cases idle : b.st.sc.state = .idle
      · rw [Bench.closeRecord, if_pos idle] at same ⊢
        exact same hb rfl rfl
      · have store : (b.closeRecord silent).store =
            b.store.closeRecord b.st.sc.recordId b.now b.st.sc.stopReason := by
          unfold Bench.closeRecord Bench.tellVerdict Bench.releaseVariant
          rw [if_neg idle]
          dsimp only
          split <;> split <;> rfl
        have none : (b.closeRecord silent).st.held = none := by
          simp [Station.held, Bench.closeRecord_sc, idle, Context.idle]
        rw [store, none]
        exact hb.closeRecord (own.trans (Station.held_eq_some.2 ⟨idle, rfl⟩)) _ _

theorem State.RecordsAgree.station {s : State} {i : StNo} {c : Bench} (hs : s.RecordsAgree)
    (h : (s.bench i).Move c) : (s.putBench i c).RecordsAgree := by
  rw [State.recordsAgree_iff] at hs ⊢
  have held : (fun j => ((s.putBench i c).stations.get j).held) =
      Function.update (fun j => (s.stations.get j).held) i c.st.held := by
    funext j
    by_cases hj : j = i
    · subst hj
      rw [State.putBench_get, Function.update_self]
    · rw [State.putBench_get_ne _ _ _ _ hj, Function.update_of_ne hj]
  rw [held]
  exact h.agrees (i := i) rfl rfl hs

theorem State.RecordsAgree.of_stations {s t : State} (hs : s.RecordsAgree) (store : t.store = s.store)
    (h : ∀ i, (t.stations.get i).sc = (s.stations.get i).sc) : t.RecordsAgree := by
  rw [State.recordsAgree_iff] at hs ⊢
  have held : (fun i => (t.stations.get i).held) = fun i => (s.stations.get i).held :=
    funext fun i => by simp [Station.held, h i]
  rw [store, held]
  exact hs

theorem State.reset_recordsAgree : State.reset.RecordsAgree := by
  have slots : ∀ k r, ¬ State.reset.store.At k r := fun k r h => by
    have h := List.eq_of_mem_replicate (List.mem_of_getElem? h)
    cases h
  refine ⟨rfl, Nat.zero_le _, fun k r h => absurd h (slots k r), fun _ _ _ _ h => absurd h (slots _ _),
    fun i busy => ?_, fun k r h => absurd h (slots k r), List.nodup_nil, fun id => ?_⟩
  · rw [State.reset, Quad.get_all] at busy
    exact absurd rfl busy
  · exact ⟨(fun h => by cases h), fun ⟨k, r, h, _⟩ => absurd h (slots k r)⟩

theorem State.RecordsAgree.move {s t : State} (hs : s.RecordsAgree) (h : s.Move t) : t.RecordsAgree := by
  cases h with
  | station i h => exact hs.station h
  | calm h => exact hs.of_stations h.store fun i => (h.stations i).sc
  | setup i mask body => exact hs.of_stations rfl fun j => (s.writeSetup_stations i mask body j).1
  | forced e w =>
    exact (forceUsers_keeps (fun _ _ _ hs h => State.RecordsAgree.station hs h) e hs).of_stations rfl
      fun _ => rfl
  | release id =>
    rw [State.recordsAgree_iff] at hs ⊢
    exact hs.release id
  | reset straps => exact State.reset_recordsAgree
  | cell | table | part | clearLine => exact hs

/-- Settles O59: every move keeps records and stations in agreement; an admission takes a fresh id. -/
theorem stepKeepsRecordsInAgreement : Obligations.StepKeepsRecordsInAgreement :=
  fun _ _ hs h => step_keeps (fun _ _ hs h => State.RecordsAgree.move hs h) hs h

/-- Settles O60: the base of the step lemmas. -/
theorem resetMeetsTheInvariants : Obligations.ResetMeetsTheInvariants := by
  have counts := fun e => State.counts_reset e State.reset.rp []
  refine ⟨State.reset_bounded, State.reset_lineStopHolds, State.reset_drivesHeld,
    (State.recipeCounts_iff _).2 ⟨State.reset_inStep, fun r => counts _⟩,
    (State.useCounts_iff _).2 ⟨State.reset_inStep, fun i _ => ?_, fun _ => counts _, fun _ => counts _,
      fun _ => counts _⟩, State.reset_recordsAgree, fun i => ?_⟩
  · rw [State.reset, Quad.get_all]
    rfl
  · rw [State.reset, Quad.get_all]
    rfl

end Sys2Proof.Machine
end

section
/-! SUPPORT. The ring side: power-on reset, the disposition of frames, the check. -/

namespace Sys2Proof.Machine

/-- Settles O1: the two branches of `step`. -/
theorem stepDoesTheFrontCommand : Obligations.StepDoesTheFrontCommand :=
  ⟨fun _ _ _ => rfl, fun s idle => by rw [step, idle]⟩

/-- Settles O3: the reset state read field by field. -/
theorem powerOnResetValues : Obligations.PowerOnResetValues := by
  refine ⟨rfl, rfl, fun _ _ => rfl, fun straps s => ⟨_, rfl, rfl, rfl, rfl, rfl, rfl, rfl, rfl, rfl, rfl, rfl,
    rfl, List.length_replicate, fun h mem => ?_, rfl, rfl, rfl, rfl, Library.inUse_empty, rfl, rfl, rfl, rfl,
    rfl, rfl, fun i => ?_⟩⟩
  · obtain rfl := List.eq_of_mem_replicate mem
    exact ⟨rfl, rfl, rfl, rfl, rfl, rfl, rfl, rfl, rfl, rfl, rfl, rfl⟩
  · have station : (State.reset.stations.get i) = Station.initial := Quad.get_all _ i
    have setup : (State.reset.setups.get i) = Setup.initial := Quad.get_all _ i
    simp only [station, setup]
    exact ⟨rfl, rfl, Drive.idle_off, rfl, rfl, rfl, rfl, rfl, rfl, rfl, rfl, rfl, rfl, rfl⟩

/-! ### The check -/

/-- One bit of a message enters the check register. -/
def crcEnter (r : Half) (bit : Bool) : Half := if r.msb = bit then r <<< 1 else (r <<< 1) ^^^ 0x1021#16

/-- What stands in the register besides the check moves up as its bits enter. -/
theorem crcBits_xor (n : Nat) (r x : Half) : crcBits n (r ^^^ x) =
    ((List.range n).map fun k => (x <<< k).msb).foldl crcEnter r ^^^ (x <<< n) := by
  induction n generalizing r x with
  | zero => simp [crcBits]
  | succ n ih =>
    rw [crcBits, crcBit_xor, ih, List.range_succ_eq_map, List.map_cons, List.foldl_cons, List.map_map]
    have shift : ∀ k, x <<< 1 <<< k = x <<< (k + 1) := fun k => by
      rw [← BitVec.shiftLeft_add, Nat.add_comm]
    simp only [shift, BitVec.shiftLeft_zero]
    rfl

/-- The bits of a byte, most significant first. -/
def byteBits (x : Byte) : List Bool := [7, 6, 5, 4, 3, 2, 1, 0].map fun k => x.getLsbD k

theorem crcByte_eq (r : Half) (b : Byte) : crcByte r b = (byteBits b).foldl crcEnter r := by
  have gone : (b.setWidth 16 <<< 8 : Half) <<< 8 = 0 := by
    rw [← BitVec.shiftLeft_add]
    exact BitVec.shiftLeft_eq_zero (by decide)
  have bits : ((List.range 8).map fun k => ((b.setWidth 16 <<< 8 : Half) <<< k).msb) = byteBits b := by
    simp [byteBits, List.range, List.range.loop, BitVec.msb_eq_getLsbD_last]
  rw [crcByte, crcBits_xor, gone, bits]
  exact BitVec.xor_zero

theorem crc_eq (bs : List Byte) : crc bs = (bs.map byteBits).flatten.foldl crcEnter 0xFFFF#16 := by
  rw [crc, List.foldl_flatten, List.foldl_map]
  exact congrArg (fun f => bs.foldl f 0xFFFF#16) (funext fun r => funext fun b => crcByte_eq r b)

/-! ### The disposition of a frame -/

theorem frameGood_iff (f : Frame) : frameGood f = true ↔ f.length.toNat ≤ 1024 ∧
    f.payload.length = f.length.toNat ∧
    f.check = crc ([f.dest, f.src, f.kind, f.seq] ++ putU16 f.length.toNat ++ f.payload) := by
  simp only [frameGood, Bool.and_eq_true, decide_eq_true_eq, and_assoc]
  rfl

variable {f : Frame} {s : State}

theorem receive_checkError (good : frameGood f = false) (own : f.dest = s.rp.addr) :
    s.receive f = { s with
      rp := { s.rp with checkErrors := countUp s.rp.checkErrors }, flags := s.flags.setLinkError } := by
  simp [State.receive, dispositionOf, good, own]

theorem receive_misdirected (good : frameGood f = true) (own : f.dest = s.rp.addr) (kind : f.kind ≠ 4) :
    s.receive f = { s with rp := { s.rp with misdirected := countUp s.rp.misdirected } } := by
  simp only [State.receive, dispositionOf, if_pos good, if_pos own,
    if_neg (show f.kind ≠ kindRequest from kind)]

theorem receive_offer (good : frameGood f = true) (own : f.dest = s.rp.addr) (kind : f.kind = 4) :
    s.receive f = s.offer f := by
  simp [State.receive, dispositionOf, good, own, kindRequest, kind]

theorem receive_returned (good : frameGood f = true) (other : f.dest ≠ s.rp.addr)
    (mine : f.src = s.rp.addr) :
    s.receive f = { s with rp := { s.rp with returned := countUp s.rp.returned } } := by
  simp only [State.receive, dispositionOf, if_pos good, if_neg other, if_pos mine]

theorem receive_cycle (good : frameGood f = true) (other : f.dest ≠ s.rp.addr) (src : f.src ≠ s.rp.addr)
    (kind : f.kind = 1) : s.receive f = (s.forward f).cycleFrame f := by
  simp [State.receive, dispositionOf, good, other, src, kindCycle, kind]

theorem receive_sample (good : frameGood f = true) (other : f.dest ≠ s.rp.addr) (src : f.src ≠ s.rp.addr)
    (kind : f.kind = 2) : s.receive f = (State.sampleIntake f (s.forward f).settle).pump := by
  simp [State.receive, dispositionOf, good, other, src, kindCycle, kindSample, kind]

theorem receive_forward (other : f.dest ≠ s.rp.addr)
    (kind : frameGood f = true → f.src ≠ s.rp.addr ∧ f.kind ≠ 1 ∧ f.kind ≠ 2) :
    s.receive f = s.forward f := by
  unfold State.receive dispositionOf
  by_cases good : frameGood f = true
  · obtain ⟨src, cycle, sample⟩ := kind good
    simp only [if_pos good, if_neg other, if_neg src, if_neg (show f.kind ≠ kindCycle from cycle),
      if_neg (show f.kind ≠ kindSample from sample)]
  · simp [good, other]

/-- Settles O4: the rows of the table of R2 that only count; the check bit by bit. -/
theorem removedFramesAreCounted : Obligations.RemovedFramesAreCounted :=
  ⟨crc_eq, frameGood_iff, fun _ _ => ⟨fun good own => congrArg _ (receive_checkError good own),
    fun good own kind => congrArg _ (receive_misdirected good own kind),
    fun good other mine => congrArg _ (receive_returned good other mine)⟩⟩

/-! ### Requests -/

theorem arrivalOf_ok_iff {p : List Byte} (kind : 1 ≤ byteAt p 0 ∧ byteAt p 0 ≤ 21) :
    arrivalOf p = .ok ↔ 3 ≤ p.length ∧
      bodyLength (byteAt p 0) (p.drop 3) = some (p.drop 3).length := by
  have judged : inCatalogue (byteAt p 0) = true := by simp [inCatalogue, kind]
  unfold arrivalOf
  rw [if_pos judged]
  split <;> simp_all

/-- A length that a count gives, where the body must hold the count's field, is met by a body that holds it. -/
theorem guarded_eq_some {n k m : Nat} (enough : n ≤ k) :
    (if n ≤ m then some k else none) = some m ↔ m = k := by
  split
  · simp [eq_comm]
  next short =>
    refine ⟨(fun h => by cases h), fun h => absurd (enough.trans h.ge) short⟩

/-- The body length that 11.3 gives a kind of the catalogue, with the counts the body carries. -/
def givenLength (k : Nat) (body : List Byte) : Nat :=
  match k with
  | 1 | 11 | 20 | 21 => 0
  | 9 | 12 | 15 | 16 | 19 => 1
  | 14 | 18 => 2
  | 6 | 17 => 3
  | 7 => 4
  | 2 => 10
  | 10 => 18
  | 8 => 51
  | 3 => 3 + 30 * byteAt body 2
  | 4 => 14 + 10 * byteAt body 13
  | 5 => 7 + 2 * u16At body 5
  | _ => 5 + byteAt body 4

theorem bodyLength_iff {k : Nat} (kind : 1 ≤ k ∧ k ≤ 21) (body : List Byte) :
    bodyLength k body = some body.length ↔ body.length = givenLength k body := by
  obtain ⟨low, high⟩ := kind
  unfold givenLength
  have plain (n : Nat) : some n = some body.length ↔ body.length = n := Option.some_inj.trans eq_comm
  obtain below | rfl | rfl | rfl | ⟨middle, under⟩ | rfl | above : k ≤ 2 ∨ k = 3 ∨ k = 4 ∨ k = 5 ∨
    (6 ≤ k ∧ k ≤ 12) ∨ k = 13 ∨ 14 ≤ k := by omega
  · interval_cases k <;> exact plain _
  · exact guarded_eq_some (Nat.le_add_right _ _)
  · exact guarded_eq_some (Nat.le_add_right _ _)
  · exact guarded_eq_some (Nat.le_add_right _ _)
  · interval_cases k <;> exact plain _
  · exact guarded_eq_some (Nat.le_add_right _ _)
  · interval_cases k <;> exact plain _

/-- Settles O5: the arrival status by the catalogue, and the two ends of `offer`. -/
theorem requestIsTakenOrLost : Obligations.RequestIsTakenOrLost := by
  refine ⟨fun p => ⟨fun kind => ?_, fun kind => ?_⟩, fun f s good own kind => ⟨fun free => ?_, fun full => ?_⟩⟩
  · rw [arrivalOf_ok_iff kind, bodyLength_iff kind]
    rfl
  · have unjudged : inCatalogue (byteAt p 0) = false := by
      simp only [inCatalogue, Bool.and_eq_false_iff, decide_eq_false_iff_not]
      omega
    simp [arrivalOf, unjudged]
  · refine congrArg _ ((receive_offer good own kind).trans ?_)
    exact if_pos free
  · refine congrArg _ ((receive_offer good own kind).trans ?_)
    exact if_neg (Nat.not_lt.2 full)

/-! ### Forwarded frames -/

theorem forward_at_once (idle : s.rp.tx = none) (empty : s.rp.buffer = []) (own : s.ownReady = false) :
    s.forward f = { s with rp := { s.rp with tx := some ⟨.forwarded, f⟩ } } :=
  if_pos ⟨idle, empty, own⟩

theorem forward_waits (busy : ¬ (s.rp.tx = none ∧ s.rp.buffer = [] ∧ s.ownReady = false))
    (room : s.rp.buffer.length < 4) :
    s.forward f = { s with rp := { s.rp with buffer := s.rp.buffer ++ [f] } } := by
  rw [State.forward, if_neg busy]
  exact if_pos room

theorem forward_dropped (full : 4 ≤ s.rp.buffer.length) :
    s.forward f = { s with rp := { s.rp with forwardDrops := countUp s.rp.forwardDrops } } := by
  have busy : ¬ (s.rp.tx = none ∧ s.rp.buffer = [] ∧ s.ownReady = false) := fun ⟨_, empty, _⟩ => by
    simp [empty] at full
  rw [State.forward, if_neg busy]
  exact if_neg (Nat.not_lt.2 full)

/-- Settles O6: the three branches of `forward`, and the rows of R2 that only forward. -/
theorem forwardedFrame : Obligations.ForwardedFrame := by
  refine ⟨fun f s => ⟨forward_at_once, forward_waits, forward_dropped⟩, fun f s other kind => ?_⟩
  have only := receive_forward other kind
  exact ⟨fun idle empty own => congrArg _ (only.trans (forward_at_once idle empty own)),
    fun busy room => congrArg _ (only.trans (forward_waits busy room)),
    fun full => congrArg _ (only.trans (forward_dropped full))⟩

end Sys2Proof.Machine
end

section
/-! SUPPORT. What the stations' work leaves of the machine around them, and the ring side's statements that
rest on it. -/

namespace Sys2Proof.Machine

/-! ### What the stations' work leaves -/

/-- The machine without what a station's work may change: tables, reports, flags, LINESTOP, the stations. -/
def State.outer (s : State) : State :=
  { s with flags := Flags.clear, lib := Library.empty, store := Store.empty
           stations := Quad.all Station.initial, lineStop := false }

/-- The machine without what the doing of due steps may change besides: the ring port, the request queue, the
head table. -/
def State.shell (s : State) : State := { s.outer with rp := RingPort.initial 0, heads := [], queue := [] }

theorem State.shell_tb (s : State) : s.shell.tb = s.tb := rfl
theorem State.shell_setups (s : State) : s.shell.setups = s.setups := rfl
theorem State.shell_cell (s : State) : s.shell.cell = s.cell := rfl
theorem State.shell_formatErrors (s : State) : s.shell.formatErrors = s.formatErrors := rfl

theorem State.shell_of_outer {s t : State} (h : t.outer = s.outer) : t.shell = s.shell :=
  congrArg (fun u : State => { u with rp := RingPort.initial 0, heads := [], queue := [] }) h

/-- What every gift of work keeps, handing work to the stations keeps. -/
theorem State.giveVibration_keeps {P : State → Prop} (give : ∀ s i ts, P s → P (s.give i ts)) {s : State}
    (hs : P s) (node : Nat) (ts : List Todo) : P (s.giveVibration node ts) := by
  unfold State.giveVibration
  refine List.foldlRecOn (motive := P) allStations _ hs fun t ht i _ => ?_
  split
  · exact give t i ts ht
  · exact ht

theorem State.giveVibration_outer (s : State) (node : Nat) (ts : List Todo) :
    (s.giveVibration node ts).outer = s.outer :=
  State.giveVibration_keeps (P := fun t => t.outer = s.outer) (fun _ _ _ h => h) rfl node ts

theorem State.pump_heads (s : State) : s.pump.heads = s.heads := by
  obtain ⟨rp, queue, h⟩ := s.pump_frame
  rw [h]

theorem State.pump_shell (s : State) : s.pump.shell = s.shell := by
  obtain ⟨rp, queue, h⟩ := s.pump_frame
  rw [h]
  rfl

theorem State.forward_shell (f : Frame) (s : State) : (s.forward f).shell = s.shell := by
  unfold State.forward
  split
  · rfl
  · split <;> rfl

theorem State.forward_setups (f : Frame) (s : State) : (s.forward f).setups = s.setups :=
  by rw [← State.shell_setups, s.forward_shell f, State.shell_setups]

/-- What a station's steps and the side's choice keep, and loss of sync, all the work keeps. -/
theorem State.settleStation_keeps {P : State → Prop} (put : ∀ s i b, P s → P (s.putBench i b))
    (pump : ∀ s : State, P s → P s.pump) {s : State} (hs : P s) (i : StNo) : P (s.settleStation i) := by
  refine State.settleAt_keeps (fun t ht => ?_) (fun t e rest _ ht => ?_) _ s hs
  · exact pump _ (put _ _ _ ht)
  · exact pump _ (put _ _ _ ht)

theorem State.settleStations_keeps {P : State → Prop} (put : ∀ s i b, P s → P (s.putBench i b))
    (pump : ∀ s : State, P s → P s.pump) {s : State} (hs : P s) : P s.settleStations :=
  State.settleStation_keeps put pump (State.settleStation_keeps put pump (State.settleStation_keeps put pump
    (State.settleStation_keeps put pump hs 0) 1) 2) 3

theorem State.settleStations_heads (s : State) : s.settleStations.heads = s.heads :=
  State.settleStations_keeps (P := fun t => t.heads = s.heads) (fun _ _ _ h => h)
    (fun t h => t.pump_heads.trans h) rfl

theorem State.settleStations_shell (s : State) : s.settleStations.shell = s.shell :=
  State.settleStations_keeps (P := fun t => t.shell = s.shell) (fun _ _ _ h => h)
    (fun t h => t.pump_shell.trans h) rfl

theorem State.loseHead_shell (node : Nat) (s : State) : (s.loseHead node).shell = s.shell := by
  rw [State.loseHead, State.pump_shell, ← s.settleStations_shell]
  unfold State.loseSync
  split
  · rw [State.shell_of_outer (State.giveVibration_outer _ _ _)]
    rfl
  · rfl

theorem State.settleHead_shell (node : Nat) (s : State) : (s.settleHead node).shell = s.shell := by
  obtain ⟨h, -, -, lost⟩ | ⟨-, same⟩ := s.settleHead_cases node
  · rw [lost, State.loseHead_shell]
  · rw [same]

/-- The doing of due steps leaves timebase, setups, cell settings, ill formed frames and the commands. -/
theorem State.settle_shell (s : State) : s.settle.shell = s.shell := by
  unfold State.settle
  rw [State.pump_shell, State.settleStations_shell]
  refine List.foldlRecOn (motive := fun t : State => t.shell = s.shell) nodes _ s.settleStations_shell ?_
  intro t ht node _
  rw [State.settleHead_shell, ht]

@[simp] theorem State.settle_tb (s : State) : s.settle.tb = s.tb := by
  rw [← State.shell_tb, s.settle_shell, State.shell_tb]

@[simp] theorem State.settle_setups (s : State) : s.settle.setups = s.setups := by
  rw [← State.shell_setups, s.settle_shell, State.shell_setups]

@[simp] theorem State.settle_formatErrors (s : State) : s.settle.formatErrors = s.formatErrors := by
  rw [← State.shell_formatErrors, s.settle_shell, State.shell_formatErrors]

@[simp] theorem State.settle_cell (s : State) : s.settle.cell = s.cell := by
  rw [← State.shell_cell, s.settle_shell, State.shell_cell]

/-! ### The ring cycle event -/

theorem State.openWindow_frame (s : State) : ∃ rp, s.openWindow = { s with rp := rp } := by
  unfold State.openWindow
  dsimp only
  split
  · exact ⟨_, rfl⟩
  · exact ⟨_, rfl⟩

@[simp] theorem State.openWindow_heads (s : State) : s.openWindow.heads = s.heads := by
  obtain ⟨rp, h⟩ := s.openWindow_frame
  rw [h]

@[simp] theorem State.openWindow_tb (s : State) : s.openWindow.tb = s.tb := by
  obtain ⟨rp, h⟩ := s.openWindow_frame
  rw [h]

@[simp] theorem State.openWindow_stations (s : State) : s.openWindow.stations = s.stations := by
  obtain ⟨rp, h⟩ := s.openWindow_frame
  rw [h]

@[simp] theorem State.openWindow_setups (s : State) : s.openWindow.setups = s.setups := by
  obtain ⟨rp, h⟩ := s.openWindow_frame
  rw [h]

@[simp] theorem State.openWindow_cell (s : State) : s.openWindow.cell = s.cell := by
  obtain ⟨rp, h⟩ := s.openWindow_frame
  rw [h]

theorem State.ringCycle_heads (s : State) : s.ringCycle.heads = s.heads.map HeadEntry.closeCycle := by
  unfold State.ringCycle
  rw [State.pump_heads]
  simp [State.stationCycle, State.give, State.onStation]

@[simp] theorem State.pump_tb (s : State) : s.pump.tb = s.tb := by
  rw [← State.shell_tb, s.pump_shell, State.shell_tb]

theorem State.ringCycle_tb (s : State) : s.ringCycle.tb = s.tb := by
  unfold State.ringCycle
  rw [State.pump_tb]
  simp [State.stationCycle, State.give, State.onStation]

theorem byteAt_lt (bs : List Byte) (i : Nat) : byteAt bs i < 256 := (bs.getD i 0).isLt

theorem u16At_lt (bs : List Byte) (i : Nat) : u16At bs i < 65536 := by
  have := byteAt_lt bs i
  have := byteAt_lt bs (i + 1)
  unfold u16At
  omega

theorem u32At_lt (bs : List Byte) (i : Nat) : u32At bs i < 4294967296 := by
  have := u16At_lt bs i
  have := u16At_lt bs (i + 2)
  unfold u32At
  omega

/-- A cycle number is the next one, as words and as numbers. -/
theorem word_ne_next {n : Nat} (h : n < 4294967296) (c : Word) :
    BitVec.ofNat 32 n ≠ c + 1 ↔ n ≠ (c.toNat + 1) % 2 ^ 32 := by
  rw [Ne, ← BitVec.toNat_inj, BitVec.toNat_ofNat, BitVec.toNat_add, Nat.mod_eq_of_lt h]
  rfl

@[simp] theorem State.forward_tb (f : Frame) (s : State) : (s.forward f).tb = s.tb := by
  rw [← State.shell_tb, s.forward_shell f, State.shell_tb]

theorem State.cycleFrame_taken {f : Frame} (length : f.length = 4) (s : State) : s.cycleFrame f =
    State.ringCycle { s.settle with tb := s.settle.tb.take (BitVec.ofNat 32 (u32At f.payload 0)) } :=
  if_pos length

theorem State.cycleFrame_unread {f : Frame} (length : f.length ≠ 4) (s : State) : s.cycleFrame f = s :=
  if_neg length

/-- Settles O7: TB takes the number of a CYCLE frame of length 4, and the ring cycle event keeps it. -/
theorem cycleFrameSetsTheCycle : Obligations.CycleFrameSetsTheCycle := by
  intro f s good other src kind
  have read := receive_cycle good other src kind
  refine ⟨fun length => ⟨s.receive f, rfl, ?_⟩, fun length => ?_⟩
  · rw [read, State.cycleFrame_taken length, State.ringCycle_tb]
    simp only [State.settle_tb, State.forward_tb, Timebase.take]
    refine ⟨?_, trivial, trivial, ?_⟩
    · rw [BitVec.toNat_ofNat, Nat.mod_eq_of_lt (u32At_lt _ _)]
    · simp only [Bool.and_eq_true, decide_eq_true_eq, word_ne_next (u32At_lt _ _)]
      rfl
  · refine congrArg _ (read.trans (State.cycleFrame_unread length _))

theorem exec_flywheel_running {s : State} (running : s.tb.running = true) : exec .flywheelExpiry s =
    .next (State.ringCycle { s.settle with tb := s.settle.tb.expire }) := by
  show Host.Outcome.next (if s.tb.running = true then _ else _) = _
  rw [if_pos running]

theorem exec_flywheel_stopped {s : State} (stopped : s.tb.running = false) :
    exec .flywheelExpiry s = .next s := by
  show Host.Outcome.next (if s.tb.running = true then _ else _) = _
  rw [if_neg (by simp [stopped])]

/-- Settles O8: the expiry of the running timer is a ring cycle event. -/
theorem flywheelMakesACycle : Obligations.FlywheelMakesACycle := by
  refine fun s => ⟨fun running => ⟨_, exec_flywheel_running running, ?_, ?_⟩, fun stopped => ?_⟩
  · rw [State.ringCycle_tb]
    simp only [State.settle_tb, Timebase.expire, running]
    rfl
  · rw [State.ringCycle_heads]
  · exact exec_flywheel_stopped stopped

end Sys2Proof.Machine
end

section
/-! SUPPORT. The head table, work handed to the vibration stations, loss of sync, transmission. -/

namespace Sys2Proof.Machine

/-! ### The head table -/

theorem headOf_eq_some {hs : List HeadEntry} {n : Nat} {h : HeadEntry} :
    headOf hs n = some h ↔ 1 ≤ n ∧ hs[n - 1]? = some h := by
  unfold headOf
  split
  next zero => simp [zero]
  next pos => simp [Nat.one_le_iff_ne_zero, pos]

theorem headOf_putHead_self {hs : List HeadEntry} {n : Nat} {h : HeadEntry} (there : headOf hs n = some h)
    (x : HeadEntry) : headOf (putHead hs n x) n = some x := by
  obtain ⟨pos, at_⟩ := headOf_eq_some.1 there
  have zero : n ≠ 0 := Nat.one_le_iff_ne_zero.1 pos
  rw [headOf_eq_some, putHead, if_neg zero, List.getElem?_set_self (List.getElem?_eq_some_iff.1 at_).1]
  exact ⟨pos, rfl⟩

theorem headOf_putHead_ne (hs : List HeadEntry) {n m : Nat} (ne : m ≠ n) (x : HeadEntry) :
    headOf (putHead hs n x) m = headOf hs m := by
  unfold headOf putHead
  split
  · rfl
  · split
    · rfl
    · exact List.getElem?_set_ne (by omega)

/-! ### Work handed to the vibration stations -/

/-- Station `i` is given work when the setups name the node as its vibration head. -/
def State.hand (setups : Quad Setup) (node : Nat) (ts : List Todo) (i : StNo) (s : State) : State :=
  if (setups.get i).vibrationHead = node then s.give i ts else s

/-- Every station of the node is given work, in station order. -/
def State.handAll (setups : Quad Setup) (node : Nat) (ts : List Todo) (s : State) : State :=
  State.hand setups node ts 3 (State.hand setups node ts 2 (State.hand setups node ts 1
    (State.hand setups node ts 0 s)))

theorem State.hand_setups (setups : Quad Setup) (node : Nat) (ts : List Todo) (i : StNo) (s : State) :
    (s.hand setups node ts i).setups = s.setups := by
  unfold State.hand
  split <;> rfl

theorem State.giveVibration_eq {s : State} {setups : Quad Setup} (h : s.setups = setups) (node : Nat)
    (ts : List Todo) : s.giveVibration node ts = s.handAll setups node ts := by
  subst h
  simp only [State.giveVibration, allStations, List.foldl_cons, List.foldl_nil]
  have one : ∀ (t : State) (i : StNo), t.setups = s.setups →
      (if (t.setups.get i).vibrationHead = node then t.give i ts else t) = t.hand s.setups node ts i :=
    fun t i ht => by rw [ht]; rfl
  rw [one s 0 rfl, one _ 1 (State.hand_setups _ _ _ _ _), one _ 2, one _ 3]
  · rfl
  · simp only [State.hand_setups]
  · simp only [State.hand_setups]

theorem State.hand_get_ne (setups : Quad Setup) (node : Nat) (ts : List Todo) (i : StNo) (s : State)
    {j : StNo} (ne : (setups.get j).vibrationHead ≠ node) :
    (s.hand setups node ts i).stations.get j = s.stations.get j := by
  unfold State.hand
  split
  next named =>
    refine State.onStation_get_ne s (fun same => ne ?_) _
    rw [same, named]
  · rfl

theorem State.handAll_get_ne (setups : Quad Setup) (node : Nat) (ts : List Todo) (s : State) {j : StNo}
    (ne : (setups.get j).vibrationHead ≠ node) :
    (s.handAll setups node ts).stations.get j = s.stations.get j := by
  simp only [State.handAll, State.hand_get_ne _ _ _ _ _ ne]

theorem State.hand_outer (setups : Quad Setup) (node : Nat) (ts : List Todo) (i : StNo) (s : State) :
    (s.hand setups node ts i).outer = s.outer := by
  unfold State.hand
  split <;> rfl

theorem State.handAll_outer (setups : Quad Setup) (node : Nat) (ts : List Todo) (s : State) :
    (s.handAll setups node ts).outer = s.outer := by
  simp only [State.handAll, State.hand_outer]

theorem State.outer_heads (s : State) : s.outer.heads = s.heads := rfl
theorem State.outer_formatErrors (s : State) : s.outer.formatErrors = s.formatErrors := rfl

theorem State.handAll_heads (setups : Quad Setup) (node : Nat) (ts : List Todo) (s : State) :
    (s.handAll setups node ts).heads = s.heads := by
  rw [← State.outer_heads, State.handAll_outer, State.outer_heads]

theorem State.handAll_formatErrors (setups : Quad Setup) (node : Nat) (ts : List Todo) (s : State) :
    (s.handAll setups node ts).formatErrors = s.formatErrors := by
  rw [← State.outer_formatErrors, State.handAll_outer, State.outer_formatErrors]

/-! ### Loss of sync -/

theorem settleStations_setups (s : State) : s.settleStations.setups = s.setups := by
  rw [← State.shell_setups, s.settleStations_shell, State.shell_setups]

theorem State.loseHead_eq {s : State} {node : Nat} {h : HeadEntry} (there : headOf s.heads node = some h) :
    s.loseHead node = (State.handAll s.setups node [.gap]
      { s.settleStations with heads := putHead s.heads node h.unsync }).pump := by
  unfold State.loseHead State.loseSync
  rw [s.settleStations_heads, there]
  exact congrArg State.pump (State.giveVibration_eq (setups := s.setups)
    (s := { s.settleStations with heads := putHead s.heads node h.unsync }) (settleStations_setups s) node _)

theorem isHeadNode_iff (n : Nat) : isHeadNode n = true ↔ 1 ≤ n ∧ n ≤ 30 := by
  rw [isHeadNode, Bool.and_eq_true, decide_eq_true_eq, decide_eq_true_eq]
  exact Iff.rfl

theorem exec_lossOfSync_of_head {s : State} {node : Nat} {h : HeadEntry} (low : 1 ≤ node) (high : node ≤ 30)
    (there : headOf s.heads node = some h) :
    exec (.lossOfSync node) s = .next (if h.lost then s.loseHead node else s) := by
  show execLossOfSync node s = _
  have isNode : isHeadNode node = true := (isHeadNode_iff node).2 ⟨low, high⟩
  simp only [execLossOfSync, if_pos isNode, there]

/-- Settles O10: LOSS_OF_SYNC by the run of the entry. -/
theorem lossOfSyncUnsyncs : Obligations.LossOfSyncUnsyncs := by
  refine fun node s h => ⟨fun low high there run => ?_, fun low high there run => ?_, fun bad => ?_⟩
  · refine ⟨s.loseHead node, ?_, ?_, fun n ne => ?_, State.loseHead_eq there⟩
    · rw [exec_lossOfSync_of_head low high there, if_pos (by simpa [HeadEntry.lost] using run)]
    · rw [State.loseHead_eq there, State.pump_heads, State.handAll_heads]
      exact headOf_putHead_self there _
    · rw [State.loseHead_eq there, State.pump_heads, State.handAll_heads]
      exact headOf_putHead_ne _ ne _
  · rw [exec_lossOfSync_of_head low high there, if_neg (by simpa [HeadEntry.lost] using run)]
  · show execLossOfSync node s = _
    have notNode : ¬ isHeadNode node = true := by
      rw [isHeadNode_iff]
      omega
    rw [execLossOfSync, if_neg notNode]

/-! ### The end of a transmission -/

theorem Request.unsent_iff (r : Request) : r.unsent = true ↔ ∃ a, r.state = .answered a false := by
  unfold Request.unsent
  split <;> simp_all

theorem Request.sending_iff (r : Request) : r.sending = true ↔ ∃ a, r.state = .answered a true := by
  unfold Request.sending
  split <;> simp_all

theorem dropSending_append {older younger : List Request} {r : Request}
    (none : ∀ q ∈ older, q.sending = false) (sending : r.sending = true) :
    dropSending (older ++ r :: younger) = older ++ younger := by
  induction older with
  | nil => simp [dropSending, sending]
  | cons q qs ih =>
    have rest := ih fun p hp => none p (List.mem_cons_of_mem _ hp)
    simp [dropSending, none q List.mem_cons_self, rest]

theorem not_sending {q : Request} (h : ∀ b, q.state ≠ .answered b true) : q.sending = false :=
  Bool.eq_false_iff.2 fun sending => by
    obtain ⟨a, ha⟩ := q.sending_iff.1 sending
    exact h a ha

theorem exec_transmissionEnd {s : State} {t : Transmission} (tx : s.rp.tx = some t) :
    exec .transmissionEnd s =
      .next (State.afterSending t.what { s with rp := { s.rp with tx := none } }).pump := by
  show Host.Outcome.next s.endTransmission = _
  simp only [State.endTransmission, tx]

/-- The reply part: up to two unsent replies, or none and the window closes. -/
theorem State.takeReplies_eq {w : Window} (setpoints : w.setpoints = []) (s : State) : s.takeReplies w =
    { s with rp := { s.rp with
      window := if s.queue.countP Request.unsent = 0 then none
        else some ⟨[], some (min 2 (s.queue.countP Request.unsent))⟩ } } := by
  by_cases zero : s.queue.countP Request.unsent = 0
  · simp [State.takeReplies, zero]
  · have some : ¬ min 2 (s.queue.countP Request.unsent) = 0 := by omega
    simp only [State.takeReplies, Config.repliesPerWindow, if_neg zero, if_neg some, setpoints]

/-- Settles O11: what each kind of frame leaves at its end. -/
theorem transmissionEndFreesTheSide : Obligations.TransmissionEndFreesTheSide := by
  refine ⟨Request.unsent_iff, fun s f => ⟨fun older r a younger tx queue none state => ⟨fun ends => ?_,
    fun goesOn => ?_⟩, fun tx => ⟨fun w window setpoints replies => ?_, fun goesOn => ?_⟩, fun tx => ?_,
    fun tx => ?_⟩⟩
  · obtain ⟨w, window, setpoints, replies⟩ := ends
    rw [exec_transmissionEnd tx]
    have dropped : dropSending s.queue = older ++ younger := by
      rw [queue]
      exact dropSending_append (fun q hq => not_sending (none q hq)) (r.sending_iff.2 ⟨a, state⟩)
    simp only [State.afterSending, window, setpoints, replies, dropped, and_self, if_true]
  · rw [exec_transmissionEnd tx]
    have dropped : dropSending s.queue = older ++ younger := by
      rw [queue]
      exact dropSending_append (fun q hq => not_sending (none q hq)) (r.sending_iff.2 ⟨a, state⟩)
    cases window : s.rp.window with
    | none => simp only [State.afterSending, window, dropped]
    | some w =>
      have more : ¬ (w.setpoints = [] ∧ w.replies = some 0) := fun ⟨h1, h2⟩ =>
        (goesOn w window).elim (fun h => h h1) fun h => h h2
      simp only [State.afterSending, window, dropped, if_neg more]
  · rw [exec_transmissionEnd tx]
    simp only [State.afterSending, window, setpoints, replies, and_self, if_true]
    rw [State.takeReplies_eq setpoints]
  · rw [exec_transmissionEnd tx]
    cases window : s.rp.window with
    | none => simp only [State.afterSending, window]
    | some w =>
      have more : ¬ (w.setpoints = [] ∧ w.replies = none) := fun ⟨h1, h2⟩ =>
        (goesOn w window).elim (fun h => h h1) fun h => h h2
      simp only [State.afterSending, window, if_neg more]
  · rw [exec_transmissionEnd tx]
    rfl
  · show Host.Outcome.next s.endTransmission = _
    simp only [State.endTransmission, tx]

end Sys2Proof.Machine
end

section
/-! SUPPORT. The transmit window, own frames, and SAMPLE frames. -/

namespace Sys2Proof.Machine

/-! ### Bytes -/

theorem putS16_eq (x : Int) : putS16 x = putU16 (x % 65536).toNat := by
  rw [putS16, BitVec.toNat_ofInt]
  rfl

theorem putS32_eq (x : Int) : putS32 x = putU32 (x % 4294967296).toNat := by
  rw [putS32, BitVec.toNat_ofInt]
  rfl

theorem putU32_eq (n : Nat) : putU32 n = [BitVec.ofNat 8 (n / 16777216), BitVec.ofNat 8 (n / 65536),
    BitVec.ofNat 8 (n / 256), BitVec.ofNat 8 n] := by
  simp [putU32, putU16, putU8, Nat.div_div_eq_div_mul]

@[simp] theorem putU16_length (n : Nat) : (putU16 n).length = 2 := rfl

theorem byteAt_append_right {a b : List Byte} {i : Nat} (h : a.length ≤ i) :
    byteAt (a ++ b) i = byteAt b (i - a.length) := by
  rw [byteAt, List.getD_append_right _ _ _ _ h, byteAt]

theorem u16At_putU16 {n : Nat} (h : n < 65536) (a b : List Byte) :
    u16At (a ++ putU16 n ++ b) a.length = n := by
  unfold u16At
  rw [List.append_assoc, byteAt_append_right (Nat.le_refl _), byteAt_append_right (Nat.le_add_right _ _)]
  simp [putU16, putU8, byteAt]
  omega

/-! ### Own frames -/

theorem State.ownReady_iff (s : State) : s.ownReady = true ↔ ∃ w, s.rp.window = some w ∧
    ((∃ i d rest, w.setpoints = (i, d) :: rest ∧ (s.stations.get i).ready = true) ∨
      (w.setpoints = [] ∧ ∃ k, w.replies = some (k + 1))) := by
  unfold State.ownReady
  cases hw : s.rp.window with
  | none => simp
  | some w =>
    obtain ⟨setpoints, replies⟩ := w
    cases setpoints with
    | cons p rest =>
      obtain ⟨i, d⟩ := p
      simp
    | nil =>
      cases replies with
      | none => simp
      | some k => cases k <;> simp

theorem buildFrame_eq (dest src kind seq : Byte) {payload : List Byte} (h : payload.length < 65536) :
    buildFrame dest src kind seq payload =
      { dest := dest, src := src, kind := kind, seq := seq, length := BitVec.ofNat 16 payload.length
        payload := payload
        check := crc ([dest, src, kind, seq] ++ putU16 payload.length ++ payload) } := by
  have length : (BitVec.ofNat 16 payload.length).toNat = payload.length := by
    rw [BitVec.toNat_ofNat]
    omega
  simp only [buildFrame, frameChecked, frameHeader, length]

theorem buildFrame_good (dest src kind seq : Byte) {payload : List Byte} (short : payload.length ≤ 1024) :
    frameGood (buildFrame dest src kind seq payload) = true := by
  have length : (BitVec.ofNat 16 payload.length).toNat = payload.length := by
    rw [BitVec.toNat_ofNat]
    omega
  rw [buildFrame_eq dest src kind seq (by omega), frameGood_iff]
  simp only [length]
  exact ⟨short, trivial, trivial⟩

theorem frameBytes_buildFrame (dest src kind seq : Byte) {payload : List Byte} (h : payload.length < 65536) :
    frameBytes (buildFrame dest src kind seq payload) =
      [dest, src, kind, seq] ++ putU16 payload.length ++ payload ++
        putU16 (crc ([dest, src, kind, seq] ++ putU16 payload.length ++ payload)).toNat := by
  have length : (BitVec.ofNat 16 payload.length).toNat = payload.length := by
    rw [BitVec.toNat_ofNat]
    omega
  simp only [frameBytes, frameChecked, frameHeader, buildFrame, length]

/-- A frame spelled and read back. -/
theorem frameOfBytes_spelled (dest src kind seq : Byte) {payload : List Byte} (h : payload.length < 65536)
    (check : Half) :
    frameOfBytes ([dest, src, kind, seq] ++ putU16 payload.length ++ payload ++ putU16 check.toNat) =
      some { dest := dest, src := src, kind := kind, seq := seq, length := BitVec.ofNat 16 payload.length
             payload := payload, check := check } := by
  have size : ([dest, src, kind, seq] ++ putU16 payload.length ++ payload ++ putU16 check.toNat).length =
      8 + payload.length := by
    simp
    omega
  have lengthField : u16At ([dest, src, kind, seq] ++ putU16 payload.length ++ payload ++
      putU16 check.toNat) 4 = payload.length := by
    rw [List.append_assoc]
    exact u16At_putU16 h [dest, src, kind, seq] _
  have checkField : u16At ([dest, src, kind, seq] ++ putU16 payload.length ++ payload ++
      putU16 check.toNat) (8 + payload.length - 2) = check.toNat := by
    have at_ := u16At_putU16 check.isLt ([dest, src, kind, seq] ++ putU16 payload.length ++ payload) []
    rw [List.append_nil] at at_
    convert at_ using 2
    simp
    omega
  unfold frameOfBytes
  rw [size, if_pos (Nat.le_add_right _ _), lengthField, checkField, BitVec.ofNat_toNat, BitVec.setWidth_eq]
  have body : (([dest, src, kind, seq] ++ putU16 payload.length ++ payload ++ putU16 check.toNat).drop 6).take
      (8 + payload.length - 8) = payload := by
    simp [putU16, putU8]
  rw [body]
  rfl

theorem markBits_three (a b c : Bool) : markBits [a, b, c] =
    (if a = true then 1 else 0) + (if b = true then 2 else 0) + (if c = true then 4 else 0) := by
  cases a <;> cases b <;> cases c <;> rfl

theorem fillValve_iff (l : Option Activity) : fillValve l = true ↔ ∃ a, l = some a ∧ a.phase = .fill := by
  cases l <;> simp [fillValve]

theorem ventValve_iff (l : Option Activity) : ventValve l = true ↔ ∃ a, l = some a ∧ a.phase = .vent := by
  cases l <;> simp [ventValve]

theorem not_unsent {q : Request} (h : ∀ b, q.state ≠ .answered b false) : q.unsent = false :=
  Bool.eq_false_iff.2 fun unsent => by
    obtain ⟨a, ha⟩ := q.unsent_iff.1 unsent
    exact h a ha

theorem find_unsent {older younger : List Request} {r : Request} (none : ∀ q ∈ older, q.unsent = false)
    (unsent : r.unsent = true) : (older ++ r :: younger).find? Request.unsent = some r := by
  rw [List.find?_append, List.find?_eq_none.2 fun q hq => by simp [none q hq]]
  simp [unsent]

theorem markSending_append {older younger : List Request} {r : Request} {a : Reply}
    (none : ∀ q ∈ older, q.unsent = false) (state : r.state = .answered a false) :
    markSending (older ++ r :: younger) = older ++ { r with state := .answered a true } :: younger := by
  induction older with
  | nil => simp [markSending, state]
  | cons q qs ih =>
    have rest := ih fun p hp => none p (List.mem_cons_of_mem _ hp)
    have first := none q List.mem_cons_self
    rw [List.cons_append, markSending]
    split
    next b hb => simp [Request.unsent, hb] at first
    · rw [rest]
      rfl

/-- Settles O12: the branches of `pump`, and the bytes of own frames. -/
theorem downstreamChoice : Obligations.DownstreamChoice := by
  refine ⟨fun n => ⟨rfl, ?_, ?_⟩, fun x => ⟨putS16_eq x, putS32_eq x⟩, State.ownReady_iff, fun s idle =>
    ⟨fun w i dest rest window setpoints ready => ?_, fun i => ?_,
      fun w k older r a younger window setpoints replies queue none state => ?_,
      fun dest kind payload h => ?_, fun own f rest buffer => ?_, fun own empty => ?_⟩⟩
  · rfl
  · exact putU32_eq n
  · have own : s.ownReady = true := s.ownReady_iff.2 ⟨w, window, .inl ⟨i, dest, rest, setpoints, ready⟩⟩
    rw [State.pump_own idle own]
    simp only [State.sendOwn, window, setpoints]
    exact ⟨rfl, rfl, rfl, trivial, rfl⟩
  · simp only [State.setpointPayload, markBits_three, fillValve_iff, ventValve_iff]
  · have own : s.ownReady = true := s.ownReady_iff.2 ⟨w, window, .inr ⟨setpoints, k, replies⟩⟩
    have unsent := fun q hq => not_unsent (none q hq)
    have found := find_unsent (younger := younger) unsent (r.unsent_iff.2 ⟨a, state⟩)
    rw [State.pump_own idle own]
    simp only [State.sendOwn, window, setpoints, replies, queue, found, state,
      markSending_append unsent state]
    rfl
  · obtain own := frameBytes_buildFrame dest s.rp.addr kind s.rp.ownSeq h
    refine ⟨own, ?_, ?_, buildFrame_good dest s.rp.addr kind s.rp.ownSeq⟩
    · rw [own]
      simp
      omega
    · rw [own, frameOfBytes_spelled _ _ _ _ h, buildFrame_eq _ _ _ _ h]
  · exact State.pump_buffer idle own buffer
  · exact State.pump_idle idle own empty

end Sys2Proof.Machine
end

section
/-! SUPPORT. The ring cycle event, and SAMPLE frames read. -/

namespace Sys2Proof.Machine

/-! ### The window -/

theorem State.mem_setpointList {s : State} {i : StNo} {d : Nat} :
    (i, d) ∈ s.setpointList ↔ d = (s.setups.get i).driveHead ∧ d ≠ 0 := by
  unfold State.setpointList
  rw [List.mem_filterMap]
  constructor
  · rintro ⟨j, -, hj⟩
    split at hj
    · cases hj
    next named =>
      cases hj
      exact ⟨rfl, named⟩
  · rintro ⟨rfl, named⟩
    exact ⟨i, by fin_cases i <;> simp [allStations], by rw [if_neg named]⟩

/-- The SETPOINT list is in station order. -/
theorem State.setpointList_ordered (s : State) :
    (s.setpointList.map Prod.fst).Pairwise (· < ·) := by
  have chosen : s.setpointList.map Prod.fst =
      allStations.filter fun i => decide ((s.setups.get i).driveHead ≠ 0) := by
    unfold State.setpointList
    rw [List.map_filterMap, ← List.filterMap_eq_filter]
    refine List.filterMap_congr fun i _ => ?_
    by_cases named : (s.setups.get i).driveHead = 0 <;> simp [named, Option.guard]
  rw [chosen]
  exact List.Pairwise.filter _ (by decide)

theorem State.setpointList_eq_nil {s : State} :
    s.setpointList = [] ↔ ∀ i, (s.setups.get i).driveHead = 0 := by
  constructor
  · intro empty i
    by_contra named
    have mem := State.mem_setpointList (s := s).2 ⟨rfl, named⟩
    rw [empty] at mem
    cases mem
  · intro none
    refine List.eq_nil_iff_forall_not_mem.2 fun ⟨i, d⟩ mem => ?_
    obtain ⟨rfl, named⟩ := State.mem_setpointList.1 mem
    exact named (none i)

theorem State.openWindow_of_empty {s : State} (empty : s.setpointList = []) : s.openWindow =
    { s with rp := { s.rp with
      overruns := satAdd Config.counterTop s.rp.overruns s.rp.unsentSetpoints
      window := if s.queue.countP Request.unsent = 0 then none
        else some ⟨[], some (min 2 (s.queue.countP Request.unsent))⟩ } } := by
  unfold State.openWindow
  dsimp only
  rw [if_pos empty, State.takeReplies_eq empty]

theorem State.openWindow_of_list {s : State} (list : s.setpointList ≠ []) : s.openWindow =
    { s with rp := { s.rp with
      overruns := satAdd Config.counterTop s.rp.overruns s.rp.unsentSetpoints
      window := some { setpoints := s.setpointList, replies := none } } } := by
  unfold State.openWindow
  dsimp only
  rw [if_neg list]

/-- What the opening of a window leaves. -/
theorem State.openWindow_spec (s : State) :
    s.openWindow.rp.overruns = min 65535 (s.rp.overruns + s.rp.unsentSetpoints) ∧
      s.openWindow.rp.tx = s.rp.tx ∧ s.openWindow.queue = s.queue := by
  by_cases empty : s.setpointList = []
  · rw [State.openWindow_of_empty empty]
    exact ⟨rfl, rfl, rfl⟩
  · rw [State.openWindow_of_list empty]
    exact ⟨rfl, rfl, rfl⟩

/-! ### The ring cycle event -/

/-- The state at a ring cycle event before the stations' work. -/
def State.cycleOpened (s : State) : State :=
  { s.openWindow with
    heads := s.heads.map HeadEntry.closeCycle
    stations := ⟨(s.stations.get 0).clearReady, (s.stations.get 1).clearReady,
      (s.stations.get 2).clearReady, (s.stations.get 3).clearReady⟩
    supplyOk :=
      match (closedOf (s.heads.map HeadEntry.closeCycle) s.cell.supplyHead).slots.supply with
      | .fresh v => decide ((s.cell.supplyThreshold : Int) ≤ v)
      | _ => false }

theorem State.supplyState_eq (s : State) : s.supplyState =
    match (closedOf s.heads s.cell.supplyHead).slots.supply with
    | .fresh v => decide ((s.cell.supplyThreshold : Int) ≤ v)
    | _ => false := by
  unfold State.supplyState
  cases (closedOf s.heads s.cell.supplyHead).slots.supply <;> rfl

theorem ringWork_eq (absent : Bool) : ringWork absent =
    if absent = true
    then [.timers, .outputs, .absent, .trips, .form, .supervise, .ready, .stopTest, .leakWork, .steadyTest,
      .listenLimit, .stopLimit]
    else [.timers, .outputs, .trips, .form, .supervise, .ready, .stopTest, .leakWork, .steadyTest,
      .listenLimit, .stopLimit] := by
  cases absent <;> rfl

/-- The work of station `i` at the ring cycle event that opens `c`. -/
def State.cycleWork (c : State) (i : StNo) : List Todo :=
  ringWork (closedOf c.heads (c.setups.get i).vibrationHead).absent

theorem State.cycleOpened_eq (s : State) :
    (let c := s.openWindow
     let c := { c with
      heads := c.heads.map HeadEntry.closeCycle
      stations := ⟨c.stations.q0.clearReady, c.stations.q1.clearReady, c.stations.q2.clearReady,
        c.stations.q3.clearReady⟩ }
     { c with supplyOk := c.supplyState }) = s.cycleOpened := by
  obtain ⟨rp, h⟩ := s.openWindow_frame
  simp only [h, State.cycleOpened, State.supplyState_eq]
  rfl

/-- No station's work changes the heads or the setups that the next station's work reads. -/
theorem State.ringCycle_eq (s : State) : s.ringCycle =
    ((((s.cycleOpened.give 0 (s.cycleOpened.cycleWork 0)).give 1 (s.cycleOpened.cycleWork 1)).give 2
      (s.cycleOpened.cycleWork 2)).give 3 (s.cycleOpened.cycleWork 3)).pump := by
  rw [← s.cycleOpened_eq]
  rfl

theorem Bench.timers_eq (b : Bench) : b.work .timers = { b with st := { b.st with
    sc := { b.st.sc with
      segTimer :=
        if b.st.sc.state = .running ∧ b.st.sc.segment ≠ none
        then min 4294967295 (b.st.sc.segTimer + 1) else b.st.sc.segTimer
      stopTimer :=
        if b.st.sc.state = .stopping then min 10000000 (b.st.sc.stopTimer + 1)
        else b.st.sc.stopTimer }
    lu := b.st.lu.map fun a => { a with mark := .old } } } := by
  simp only [Bench.work, Bench.timers, Option.isSome_iff_ne_none]
  rfl

/-- Settles O13: the ring cycle event in its parts. -/
theorem windowOpens : Obligations.WindowOpens := by
  refine ⟨fun s running => exec_flywheel_running running, fun f s good other src kind length => ?_,
    fun s => ?_, fun b => ⟨b.timers_eq, rfl⟩, fun rp => ⟨fun w hw => ?_, fun none => ?_⟩, fun s => ?_⟩
  · show Host.Outcome.next (s.receive f) = _
    rw [receive_cycle good other src kind, State.cycleFrame_taken length]
    simp only [Timebase.take, Bool.and_eq_true, decide_eq_true_eq]
    rfl
  · have setups : s.cycleOpened.setups = s.setups := s.openWindow_setups
    have work : ∀ i, s.cycleOpened.cycleWork i = _ := fun i => by
      rw [State.cycleWork, ringWork_eq, setups]
    rw [State.ringCycle_eq, work, work, work, work]
    rfl
  · simp [RingPort.unsentSetpoints, hw]
  · simp [RingPort.unsentSetpoints, none]
  · obtain ⟨overruns, tx, queue⟩ := s.openWindow_spec
    refine ⟨overruns, tx, queue, fun ⟨i, named⟩ => ?_, fun none => ?_⟩
    · have list : s.setpointList ≠ [] := fun empty => named (State.setpointList_eq_nil.1 empty i)
      rw [State.openWindow_of_list list]
      exact ⟨_, rfl, rfl, s.setpointList_ordered, fun i d => State.mem_setpointList⟩
    · rw [State.openWindow_of_empty (State.setpointList_eq_nil.2 none)]

end Sys2Proof.Machine
end

section
/-! SUPPORT. SAMPLE frames read by the sample intake (O9). -/

namespace Sys2Proof.Machine

/-! ### No station's work touches HEAD_RESYNC -/

theorem Bench.Move.headResync {b c : Bench} (h : b.Move c) : c.flags.headResync = b.flags.headResync := by
  cases h with
  | enrol slot v e mode serial =>
    unfold Bench.enrol
    dsimp only
    obtain ⟨d, hd, -⟩ := Bench.follow_spec (Bench.setDc (((((b.setStore _).setSc _).setLib _).setMode _)) _)
    rw [hd]
    rfl
  | change h =>
    cases h with
    | quiet h => exact h.headResync
    | segment g o =>
      unfold Bench.finishSegment Bench.endListen
      dsimp only
      split <;> rfl
    | release =>
      unfold Bench.releaseVariant
      split <;> rfl
    | close silent =>
      unfold Bench.closeRecord Bench.tellVerdict Bench.releaseVariant
      dsimp only
      split
      · rfl
      · split <;> split <;> rfl
    | clear | stop | coast | alarm | hold | wait | take | push | swap | pop | listen => rfl

theorem Bench.Leads.headResync {b c : Bench} (h : b.Leads c) : c.flags.headResync = b.flags.headResync := by
  induction h with
  | refl => rfl
  | tail _ last ih => exact (Bench.Move.change last).headResync.trans ih

theorem State.handAll_headResync (setups : Quad Setup) (node : Nat) (ts : List Todo) (s : State) :
    (s.handAll setups node ts).flags.headResync = s.flags.headResync := by
  have one : ∀ (i : StNo) (t : State), (t.hand setups node ts i).flags.headResync = t.flags.headResync :=
    fun i t => by
      unfold State.hand
      split
      · exact Bench.Leads.headResync (leads_runWork ((t.bench i).st.todo ++ ts) (t.bench i))
      · rfl
  simp only [State.handAll, one]

theorem State.pump_flags (s : State) : s.pump.flags = s.flags := by
  obtain ⟨rp, queue, h⟩ := s.pump_frame
  rw [h]

theorem State.pump_stations (s : State) : s.pump.stations = s.stations := by
  obtain ⟨rp, queue, h⟩ := s.pump_frame
  rw [h]

theorem State.pump_formatErrors (s : State) : s.pump.formatErrors = s.formatErrors := by
  obtain ⟨rp, queue, h⟩ := s.pump_frame
  rw [h]

theorem State.forward_formatErrors (f : Frame) (s : State) : (s.forward f).formatErrors = s.formatErrors := by
  rw [← State.shell_formatErrors, s.forward_shell f, State.shell_formatErrors]

/-! ### Payloads -/

theorem sampleWellFormed_iff (p : List Byte) : sampleWellFormed p = true ↔ 5 ≤ p.length ∧ p.length =
    if (byteAt p 4).testBit 0 = true then (if (byteAt p 4).testBit 1 = true then 222 else 197)
    else if (byteAt p 4).testBit 1 = true then 30 else 5 := by
  rw [sampleWellFormed, Bool.and_eq_true, decide_eq_true_eq, decide_eq_true_eq, sampleLength, bitSet, bitSet]
  cases (byteAt p 4).testBit 0 <;> cases (byteAt p 4).testBit 1 <;> exact Iff.rfl

theorem fastWork_eq (p : List Byte) : fastWork p =
    if (byteAt p 4).testBit 0 = true then
      (List.range 32).map fun j => .sampleSet
        { a := s16At p (5 + 6 * j), b := s16At p (7 + 6 * j), angle := BitVec.ofNat 16 (u16At p (9 + 6 * j)) }
    else [.gap] := by
  unfold fastWork hasFast sampleSets bitSet
  rw [List.map_map]
  split
  · refine List.map_congr_left fun j _ => ?_
    rw [show 7 + 6 * j = 5 + 6 * j + 2 by omega, show 9 + 6 * j = 5 + 6 * j + 4 by omega]
    rfl
  · rfl

theorem slowAt_eq (p : List Byte) (k : Nat) : slowAt p k =
    if (byteAt p 4).testBit 1 = true ∧
        (byteAt p (if (byteAt p 4).testBit 0 then 197 else 5)).testBit k = true
    then some (s32At p ((if (byteAt p 4).testBit 0 then 197 else 5) + 1 + 4 * k)) else none := by
  simp only [slowAt, slowOffset, hasFast, bitSet, Bool.and_eq_true]
  rfl

theorem takeSlot_eq (old new : Option Int) : takeSlot old new = new.or old := by
  cases new <;> rfl

/-! ### Entries -/

theorem HeadEntry.ahead_eq (h : HeadEntry) (seq : Byte) :
    h.ahead seq = (seq.toNat + 256 - h.expected.toNat) % 256 := by
  have := h.expected.isLt
  rw [HeadEntry.ahead, BitVec.toNat_sub]
  congr 1
  omega

theorem closeSlot_eq (synced : Prop) [Decidable synced] (v : Option Int) (fresh : Bool) :
    closeSlot (decide synced) v fresh =
      match v with
      | none => .noValue
      | some x => if fresh = true ∧ synced then .fresh x else .held x := by
  unfold closeSlot
  cases v <;> simp

theorem headSynced_iff (hs : List HeadEntry) (n : Nat) :
    headSynced hs n = true ↔ ∃ h, headOf hs n = some h ∧ h.state = .synced := by
  unfold headSynced
  cases headOf hs n <;> simp

theorem HeadEntry.closeCycle_eq (h : HeadEntry) :
    let closed (v : Option Int) (fresh : Bool) : Reading :=
      match v with
      | none => .noValue
      | some x => if fresh = true ∧ h.state = .synced then .fresh x else .held x
    h.closeCycle = { h with
      closed :=
        { slots := ⟨closed h.values.speed h.fresh.speed, closed h.values.torque h.fresh.torque,
            closed h.values.housing h.fresh.housing, closed h.values.airTemp h.fresh.airTemp,
            closed h.values.oil h.fresh.oil, closed h.values.supply h.fresh.supply⟩
          absent := decide (h.state = .synced ∧ h.used = 0)
          signalled := h.signalled }
      fresh := Slow.all false
      used := 0
      signalled := false } := by
  simp only [HeadEntry.closeCycle, Slow.map2, closeSlot_eq, Bool.decide_and]

/-- The entry after a well-formed frame (R14 to R16). -/
def HeadEntry.tracked (f : Frame) (h : HeadEntry) : HeadEntry :=
  match h.state with
  | .unsynced => h.use f
  | .synced =>
    if h.ahead f.seq = 0 then h.use f
    else if h.ahead f.seq ≤ 8 then (h.gapBy (h.ahead f.seq)).use f
    else h.outOfTurn

variable {f : Frame} {h : HeadEntry} {z : State} {setups : Quad Setup}

theorem State.track_unsynced (named : z.setups = setups) (unsynced : h.state = .unsynced) : z.track f h =
    State.handAll setups f.src.toNat (fastWork f.payload)
      { z with heads := putHead z.heads f.src.toNat (h.tracked f), flags := z.flags.setHeadResync } := by
  simp only [State.track, HeadEntry.tracked, unsynced]
  exact State.giveVibration_eq (s := { z with
    heads := putHead z.heads f.src.toNat (h.use f), flags := z.flags.setHeadResync }) named _ _

theorem State.track_used (named : z.setups = setups) (synced : h.state = .synced)
    (used : h.ahead f.seq ≤ 8) : z.track f h =
    State.handAll setups f.src.toNat
      (if h.ahead f.seq = 0 then fastWork f.payload else .gap :: fastWork f.payload)
      { z with heads := putHead z.heads f.src.toNat (h.tracked f) } := by
  simp only [State.track, HeadEntry.tracked, synced]
  split
  · exact State.giveVibration_eq (s := { z with heads := putHead z.heads f.src.toNat (h.use f) }) named _ _
  · exact State.giveVibration_eq (s := { z with
      heads := putHead z.heads f.src.toNat ((h.gapBy (h.ahead f.seq)).use f) }) named _ _

theorem State.track_unused (synced : h.state = .synced) (far : 9 ≤ h.ahead f.seq) : z.track f h =
    { z with heads := putHead z.heads f.src.toNat (h.tracked f) } := by
  have n0 : ¬ h.ahead f.seq = 0 := by omega
  have n8 : ¬ h.ahead f.seq ≤ 8 := by omega
  simp only [State.track, HeadEntry.tracked, synced, if_neg n0, if_neg n8]

/-- Whatever its branch, tracking changes heads of the node, flags and stations alone. -/
theorem State.track_spec (named : z.setups = setups) : 
    (z.track f h).heads = putHead z.heads f.src.toNat (h.tracked f) ∧
    (z.track f h).formatErrors = z.formatErrors ∧
    ∀ i, (setups.get i).vibrationHead ≠ f.src.toNat → (z.track f h).stations.get i = z.stations.get i := by
  cases state : h.state with
  | unsynced =>
    rw [State.track_unsynced named state]
    exact ⟨State.handAll_heads _ _ _ _, State.handAll_formatErrors _ _ _ _,
      fun i ne => State.handAll_get_ne _ _ _ _ ne⟩
  | synced =>
    obtain used | far := Nat.lt_or_ge (h.ahead f.seq) 9
    · rw [State.track_used named state (Nat.le_of_lt_succ used)]
      exact ⟨State.handAll_heads _ _ _ _, State.handAll_formatErrors _ _ _ _,
        fun i ne => State.handAll_get_ne _ _ _ _ ne⟩
    · rw [State.track_unused state far]
      exact ⟨rfl, rfl, fun _ _ => rfl⟩

theorem HeadEntry.tracked_used (used : h.state = .unsynced ∨ h.ahead f.seq ≤ 8) : h.tracked f =
    { h.use f with
      gap := if h.state = .unsynced ∨ h.ahead f.seq = 0 then h.gap
        else min 65535 (h.gap + h.ahead f.seq)
      signalled := h.signalled || decide (h.state = .synced ∧ h.ahead f.seq ≠ 0) } := by
  unfold HeadEntry.tracked
  cases state : h.state with
  | unsynced => simp [HeadEntry.use]
  | synced =>
    by_cases zero : h.ahead f.seq = 0
    · simp [zero, HeadEntry.use]
    · have near : h.ahead f.seq ≤ 8 := by simpa [state] using used
      simp [zero, near, HeadEntry.use, HeadEntry.gapBy, satAdd, Config.counterTop]

theorem HeadEntry.tracked_unused (synced : h.state = .synced) (far : 9 ≤ h.ahead f.seq) :
    h.tracked f = h.outOfTurn := by
  have n0 : ¬ h.ahead f.seq = 0 := by omega
  have n8 : ¬ h.ahead f.seq ≤ 8 := by omega
  simp only [HeadEntry.tracked, synced, if_neg n0, if_neg n8]

theorem exec_sample {s : State} (good : frameGood f = true) (other : f.dest ≠ s.rp.addr)
    (src : f.src ≠ s.rp.addr) (kind : f.kind = 2) :
    exec (.frameReceived f) s = .next (State.sampleIntake f (s.forward f).settle).pump :=
  congrArg Host.Outcome.next (receive_sample good other src kind)

/-- Settles O9: the branches of the tracking, and what each hands the stations of the node. -/
theorem sampleFrameIsTracked : Obligations.SampleFrameIsTracked := by
  refine ⟨sampleWellFormed_iff, fun hs n => ⟨fun h => headOf_eq_some, fun h => rfl, fun h there => ?_,
    fun none => ?_, headSynced_iff hs n⟩, HeadEntry.ahead_eq, HeadEntry.closeCycle_eq,
    fun f s good other src kind => ?_⟩
  · simp [closedOf, there]
  · simp [closedOf, none]
  rw [exec_sample good other src kind, ← fastWork_eq f.payload]
  have named : (s.forward f).settle.setups = s.setups := by rw [State.settle_setups, State.forward_setups]
  have errors : (s.forward f).settle.formatErrors = s.formatErrors := by
    rw [State.settle_formatErrors, State.forward_formatErrors]
  generalize (s.forward f).settle = z at named errors
  refine ⟨fun h there formed => ?_, fun bad => ?_⟩
  · have intake : State.sampleIntake f z = z.track f h := by
      simp only [State.sampleIntake, there, if_pos formed]
    obtain ⟨heads, format, stations⟩ := State.track_spec (z := z) (f := f) (h := h) named
    rw [intake]
    refine ⟨_, h.tracked f, rfl, ?_, fun n ne => ?_, ?_, fun unsynced => ?_, fun synced used => ?_,
      fun synced far => ?_, fun used => ?_, fun i ne => ?_, fun unsynced => ?_, fun synced far => ?_⟩
    · rw [State.pump_heads, heads]
      exact headOf_putHead_self there _
    · rw [State.pump_heads, heads]
      exact headOf_putHead_ne _ ne _
    · rw [State.pump_formatErrors, format, errors]
    · rw [State.track_unsynced named unsynced]
      rfl
    · rw [State.track_used named synced used]
      rfl
    · rw [State.track_unused synced far]
    · rw [HeadEntry.tracked_used used]
      refine ⟨rfl, rfl, rfl, rfl, ?_, rfl, rfl, rfl, rfl, rfl, ?_, ?_⟩
      · exact (BitVec.toNat_ofNat _ _).trans (Nat.mod_eq_of_lt (u32At_lt _ _))
      · simp only [HeadEntry.use, Slow.map2, takeSlot_eq, slowValues, slowAt_eq]
      · simp only [HeadEntry.use, Slow.map2, slowValues, slowAt_eq]
    · rw [State.pump_stations, stations i ne]
    · rw [State.pump_flags, State.track_unsynced named unsynced, State.handAll_headResync]
      rfl
    · exact HeadEntry.tracked_unused synced far
  · have intake : State.sampleIntake f z = { z with formatErrors := countUp z.formatErrors } := by
      unfold State.sampleIntake
      cases there : headOf z.heads f.src.toNat with
      | none => rfl
      | some h =>
        obtain none | unformed := bad
        · rw [none] at there
          cases there
        · simp only [unformed, Bool.false_eq_true, if_false]
    rw [intake]
    refine ⟨_, rfl, State.pump_heads _, ?_⟩
    rw [State.pump_formatErrors, ← errors]
    rfl

end Sys2Proof.Machine
end

section
/-! SUPPORT. Requests: the checks every request takes, the reply, STATUS and READ_COUNTERS. -/

namespace Sys2Proof.Machine

/-! ### From a command to its owning rule -/

/-- A request command executes the entry it is for: the steps due before it, then its owning rule, then its
reply. -/
theorem State.request_of_asks {s : State} {r : Request} {kind : Nat} (asks : s.Asks kind r)
    (op : Request → State → Answer) :
    s.request (fun k => decide (k = kind)) op = State.reply r (op r s.settle) := by
  obtain ⟨found, isKind, ok⟩ := asks
  simp only [State.request, found, isKind, decide_true, if_true, State.execute, checked]
  rw [if_neg (by simp [ok])]

theorem replies_of_asks {c : Instr} {s : State} {r : Request} {kind : Nat} {op : Request → State → Answer}
    {a : Answer} (asks : s.Asks kind r) (arm : exec c s = .next (s.request (fun k => decide (k = kind)) op))
    (rule : op r s.settle = a) : Replies c s r a := by
  rw [Replies, arm, State.request_of_asks asks, rule]

/-! ### Replies -/

theorem Request.waiting_iff (r : Request) : r.waiting = true ↔ r.state = .waiting := by
  unfold Request.waiting
  split <;> simp_all

theorem answerOldest_append {older younger : List Request} {r : Request} (rep : Reply)
    (none : ∀ q ∈ older, q.waiting = false) (waiting : r.waiting = true) :
    answerOldest rep (older ++ r :: younger) =
      older ++ { r with state := .answered rep false } :: younger := by
  induction older with
  | nil => simp [answerOldest, waiting]
  | cons q qs ih =>
    have rest := ih fun p hp => none p (List.mem_cons_of_mem _ hp)
    simp [answerOldest, none q List.mem_cons_self, rest]

theorem State.summary_station (s : State) (i : StNo) :
    s.summary.stations.get i = (s.stations.get i).summary := by
  fin_cases i <;> rfl

theorem Flags.byte_eq (f : Flags) : f.byte =
    (if f.reportReady = true then 1 else 0) + (if f.linkError = true then 2 else 0) +
      (if f.requestLost = true then 4 else 0) + (if f.headResync = true then 8 else 0) +
      (if f.safety = true then 16 else 0) + (if f.airShort = true then 32 else 0) := by
  have one : ∀ (b : Bool) (n : Nat), n * (if b = true then 1 else 0) = if b = true then n else 0 :=
    fun b n => by cases b <;> simp
  simp only [Flags.byte, markBits, ← one _ 2, ← one _ 4, ← one _ 8, ← one _ 16, ← one _ 32]
  omega

/-- Settles O14: the reply put with the oldest WAITING entry, and its bytes. -/
theorem replyIsFormed : Obligations.ReplyIsFormed := by
  refine ⟨rfl, rfl, rfl, rfl, Request.waiting_iff, fun s => ⟨fun i => ?_, rfl, fun empty => ?_,
    fun id ids queue => ?_⟩, fun t => ⟨fun held x reason => ?_, fun stopping kind => ?_,
    fun stopping kind => ?_, fun other => ?_⟩, fun p => ⟨?_, ?_⟩, fun r a older younger none waiting queue =>
    ⟨?_, rfl, rfl⟩⟩
  · rw [State.summary_station, Station.summary]
    simp only [Bool.decide_and, Bool.decide_eq_true]
  · simp [State.summary, empty]
  · simp [State.summary, queue]
  · rw [StationSummary.detail, held, reason]
    cases x <;> rfl
  · rw [StationSummary.detail, stopping, kind]
  · rw [StationSummary.detail, stopping, kind]
  · unfold StationSummary.detail
    obtain state | state | state := other <;> rw [state]
  · simp only [Reply.bytes, Flags.byte_eq, StationSummary.bytes, putMark, List.append_assoc]
    rfl
  · simp [Reply.bytes, StationSummary.bytes, putU8, putU16, putMark]
    omega
  · rw [State.reply, queue, answerOldest_append _ none (r.waiting_iff.2 waiting)]
    rfl

/-! ### The first checks -/

/-- The owning rule of each command of the catalogue. -/
def owningRule : Instr → Request → State → Answer
  | .status => opStatus
  | .loadVariant => opLoadVariant
  | .loadRecipe => opLoadRecipe
  | .loadLimits => opLoadLimits
  | .loadAngle => opLoadAngle
  | .deleteEntry => opDeleteEntry
  | .readEntry => opReadEntry
  | .setStation => opSetStation
  | .readStation => opReadStation
  | .setCell => opSetCell
  | .readCell => opReadCell
  | .readCounters => opReadCounters
  | .admitAxle => opAdmit
  | .setRunMode => opSetRunMode
  | .resume => opResume
  | .abort => opAbort
  | .readReport => opReadReport
  | .releaseReport => opReleaseReport
  | .clearReject => opClearReject
  | .clearLineStop => opClearLineStop
  | .cellReset => opCellReset
  | _ => opBadKind

theorem exec_of_catalogue {k : Nat} {c : Instr} (h : (k, c) ∈ requestCommands) (s : State) :
    exec c s = .next (s.request (fun n => decide (n = k)) (owningRule c)) := by
  simp only [requestCommands, List.mem_cons, List.not_mem_nil, or_false, Prod.mk.injEq] at h
  obtain ⟨rfl, rfl⟩ | ⟨rfl, rfl⟩ | ⟨rfl, rfl⟩ | ⟨rfl, rfl⟩ | ⟨rfl, rfl⟩ | ⟨rfl, rfl⟩ | ⟨rfl, rfl⟩ |
    ⟨rfl, rfl⟩ | ⟨rfl, rfl⟩ | ⟨rfl, rfl⟩ | ⟨rfl, rfl⟩ | ⟨rfl, rfl⟩ | ⟨rfl, rfl⟩ | ⟨rfl, rfl⟩ | ⟨rfl, rfl⟩ |
    ⟨rfl, rfl⟩ | ⟨rfl, rfl⟩ | ⟨rfl, rfl⟩ | ⟨rfl, rfl⟩ | ⟨rfl, rfl⟩ | ⟨rfl, rfl⟩ := h <;> rfl

/-- Settles O15: the check on the arrival status comes before any owning rule. -/
theorem firstChecksRefuse : Obligations.FirstChecksRefuse := by
  refine ⟨fun s r k c mem found kind bad => ?_, fun s r found ok kind => ?_⟩
  · rw [Replies, exec_of_catalogue mem]
    simp only [State.request, found, kind, decide_true, if_true, State.execute, checked]
    rw [if_pos bad]
    rfl
  · have outside : inCatalogue r.kind.toNat = false := by
      rw [inCatalogue, Bool.and_eq_false_iff, decide_eq_false_iff_not, decide_eq_false_iff_not]
      omega
    show Host.Outcome.next (s.request (fun k => !(inCatalogue k)) opBadKind) = _
    simp only [State.request, found, outside, Bool.not_false, if_true, State.execute, checked]
    rw [if_neg (by simp [ok])]
    rfl

end Sys2Proof.Machine
end

section
/-! SUPPORT. STATUS, READ_COUNTERS, SET_RUN_MODE, RESUME, CLEAR_REJECT and CLEAR_LINE_STOP. -/

namespace Sys2Proof.Machine

/-! ### Marks and numbers of a body -/

theorem markOf_beyond {n : Nat} (h : 2 ≤ n) : markOf n = none := by
  match n with
  | n + 2 => rfl

theorem within_iff {lo hi n : Nat} : within lo hi n = true ↔ lo ≤ n ∧ n ≤ hi := by
  simp [within]

theorem within_false_iff {lo hi n : Nat} : within lo hi n = false ↔ n < lo ∨ hi < n := by
  rw [← Bool.not_eq_true, within_iff]
  omega

/-! ### STATUS and READ_COUNTERS -/

theorem countP_eq_length_filter' {α : Type} (l : List α) {p q : α → Bool} (h : ∀ a, p a = q a) :
    l.countP p = (l.filter q).length := by
  rw [funext h, List.countP_eq_length_filter]

@[simp] theorem putU8_length (n : Nat) : (putU8 n).length = 1 := rfl
@[simp] theorem putU32_length (n : Nat) : (putU32 n).length = 4 := rfl

theorem HeadEntry.bytes_length (h : HeadEntry) : h.bytes.length = 12 := rfl

theorem flatten_length {α β : Type} {f : α → List β} {k : Nat} (l : List α) (h : ∀ a, (f a).length = k) :
    (l.map f).flatten.length = k * l.length := by
  induction l with
  | nil => rfl
  | cons a l ih => simp [ih, h, Nat.mul_add, Nat.add_comm]

theorem HeadEntry.bytes_eq (h : HeadEntry) : h.bytes =
    putU8 (if h.state = .synced then 1 else 0) ++ [h.expected] ++ putU16 h.gap ++ putU16 h.outOfOrder
      ++ putU16 h.resync ++ putU32 h.lastStamp.toNat := by
  unfold HeadEntry.bytes
  cases h.state <;> rfl

theorem countersPayload_eq (s : State) : countersPayload s = putU32 s.tb.cycle.toNat
    ++ (putU16 s.rp.checkErrors ++ putU16 s.rp.misdirected ++ putU16 s.rp.returned
      ++ putU16 s.rp.forwardDrops ++ putU16 s.rp.overruns ++ putU16 s.formatErrors
      ++ putU16 s.tb.slips ++ putU16 s.tb.flywheels)
    ++ (s.heads.map fun h => putU8 (if h.state = .synced then 1 else 0) ++ [h.expected]
      ++ putU16 h.gap ++ putU16 h.outOfOrder ++ putU16 h.resync ++ putU32 h.lastStamp.toNat).flatten
    ++ (putU16 (s.stations.get 0).ou.lost ++ putU16 (s.stations.get 1).ou.lost
      ++ putU16 (s.stations.get 2).ou.lost ++ putU16 (s.stations.get 3).ou.lost) := by
  have heads : s.heads.map HeadEntry.bytes = _ := congrArg (s.heads.map ·) (funext HeadEntry.bytes_eq)
  simp only [countersPayload, heads, List.append_assoc]
  rfl

theorem countersPayload_length {s : State} (h : s.heads.length = 30) : (countersPayload s).length = 388 := by
  simp [countersPayload, flatten_length s.heads HeadEntry.bytes_length, h, Quad.toList]

theorem opStatus_eq (r : Request) (z : State) : opStatus r z = ⟨z, .done, .status,
    putU8 z.rp.addr.toNat ++ putU32 z.tb.cycle.toNat ++ putU8 z.queue.length ++ putU8 z.store.freeCount
      ++ putU8 z.store.openCount⟩ := rfl

theorem opReadCounters_read {r : Request} (mark : byteAt r.body 0 = 0) (z : State) :
    opReadCounters r z = ⟨z, .done, .counters, countersPayload z⟩ := by
  rw [opReadCounters, mark]
  rfl

theorem opReadCounters_clear {r : Request} (mark : byteAt r.body 0 = 1) (z : State) :
    opReadCounters r z = ⟨z.clearCounters, .done, .counters, countersPayload z⟩ := by
  rw [opReadCounters, mark]
  rfl

theorem opReadCounters_badField {r : Request} (mark : 2 ≤ byteAt r.body 0) (z : State) :
    opReadCounters r z = ⟨z, .badField, .none, [0]⟩ := by
  rw [opReadCounters, markOf_beyond mark]
  rfl

theorem State.clearCounters_spec (z : State) :
    z.clearCounters.rp = { z.rp with
      checkErrors := 0, misdirected := 0, returned := 0, forwardDrops := 0, overruns := 0 } ∧
    z.clearCounters.tb = { z.tb with slips := 0, flywheels := 0 } ∧ z.clearCounters.formatErrors = 0 ∧
    z.clearCounters.heads = z.heads.map (fun h => { h with gap := 0, outOfOrder := 0, resync := 0 }) ∧
    (∀ i, z.clearCounters.stations.get i = { z.stations.get i with
      ou := { (z.stations.get i).ou with lost := 0 } }) ∧
    z.clearCounters.lib = z.lib ∧ z.clearCounters.setups = z.setups ∧ z.clearCounters.cell = z.cell ∧
    z.clearCounters.store = z.store ∧ z.clearCounters.lineStop = z.lineStop ∧
    z.clearCounters.queue = z.queue ∧ z.clearCounters.flags = z.flags ∧
    z.clearCounters.supplyOk = z.supplyOk ∧ z.clearCounters.pending = z.pending := by
  refine ⟨rfl, rfl, rfl, rfl, fun i => ?_, rfl, rfl, rfl, rfl, rfl, rfl, rfl, rfl, rfl⟩
  fin_cases i <;> rfl

/-- Settles O16: the payloads byte by byte, and the branches of READ_COUNTERS by its mark. -/
theorem statusAndCountersAreAnswered : Obligations.StatusAndCountersAreAnswered := by
  refine ⟨fun t => ⟨countP_eq_length_filter' _ fun o => ?_, countP_eq_length_filter' _ fun o => ?_⟩,
    fun s => ⟨countersPayload_eq s, countersPayload_length⟩, fun s r => ⟨fun asks => ?_,
      fun asks mark => ?_, fun asks mark => ?_, fun asks mark => ?_⟩⟩
  · cases o <;> rfl
  · cases o with
    | none => rfl
    | some r => cases h : r.closed <;> simp [h]
  · exact replies_of_asks asks rfl (opStatus_eq r s.settle)
  · exact replies_of_asks asks rfl (opReadCounters_read mark s.settle)
  · exact ⟨s.settle.clearCounters, replies_of_asks asks rfl (opReadCounters_clear mark s.settle),
      s.settle.clearCounters_spec⟩
  · exact replies_of_asks asks rfl (opReadCounters_badField mark s.settle)

/-! ### Requests that name a station -/

theorem onNamed_of_station {r : Request} {s : State} {f : StNo → Answer} {i : StNo}
    (named : byteAt r.body 0 = i.val) : onNamed r s f = f i := by
  unfold onNamed
  rw [named]
  fin_cases i <;> rfl

theorem onNamed_outside {r : Request} {s : State} {f : StNo → Answer} (h : 4 ≤ byteAt r.body 0) :
    onNamed r s f = refuse .badField s := by
  unfold onNamed
  have none : stationOf (byteAt r.body 0) = none := by
    match byteAt r.body 0, h with
    | n + 4, _ => rfl
  rw [none]

/-! ### SET_RUN_MODE -/

theorem opSetRunMode_set {r : Request} {z : State} {i : StNo} {m : RunMode} (named : byteAt r.body 0 = i.val)
    (mode : runModeOf (byteAt r.body 1) = some m) (busy : (z.stations.get i).sc.state ≠ .idle) :
    opSetRunMode r z = ⟨{ z with stations := z.stations.set i { z.stations.get i with mode := m } },
      .done, .none, [0]⟩ := by
  rw [opSetRunMode, onNamed_of_station named, mode]
  simp only [if_neg busy]
  rfl

theorem opSetRunMode_idle {r : Request} {z : State} {i : StNo} {m : RunMode} (named : byteAt r.body 0 = i.val)
    (mode : runModeOf (byteAt r.body 1) = some m) (idle : (z.stations.get i).sc.state = .idle) :
    opSetRunMode r z = ⟨z, .wrongState, .none, [0]⟩ := by
  rw [opSetRunMode, onNamed_of_station named, mode]
  simp only [if_pos idle]
  rfl

theorem runModeOf_beyond {n : Nat} (h : 4 ≤ n) : runModeOf n = none := by
  match n, h with
  | n + 4, _ => rfl

theorem byteAt_station {r : Request} (h : byteAt r.body 0 < 4) : ∃ i : StNo, byteAt r.body 0 = i.val :=
  ⟨⟨byteAt r.body 0, h⟩, rfl⟩

theorem opSetRunMode_badField {r : Request} (z : State) (bad : 4 ≤ byteAt r.body 0 ∨ 4 ≤ byteAt r.body 1) :
    opSetRunMode r z = ⟨z, .badField, .none, [0]⟩ := by
  obtain inside | outside := Nat.lt_or_ge (byteAt r.body 0) 4
  · obtain ⟨i, named⟩ := byteAt_station inside
    have mode := runModeOf_beyond (bad.resolve_left (Nat.not_le.2 inside))
    rw [opSetRunMode, onNamed_of_station named, mode]
    rfl
  · rw [opSetRunMode, onNamed_outside outside]
    rfl

/-- Settles O28: the branches of SET_RUN_MODE. -/
theorem runModeIsSet : Obligations.RunModeIsSet := by
  refine fun s r asks => ⟨fun i m named code => ?_, fun bad => ?_⟩
  · have mode : runModeOf (byteAt r.body 1) = some m := by
      rw [code]
      cases m <;> rfl
    exact ⟨fun busy => replies_of_asks asks rfl (opSetRunMode_set named mode busy),
      fun idle => replies_of_asks asks rfl (opSetRunMode_idle named mode idle)⟩
  · exact replies_of_asks asks rfl (opSetRunMode_badField _ bad)

/-! ### RESUME -/

theorem opResume_held {r : Request} {z : State} {i : StNo} (named : byteAt r.body 0 = i.val)
    (held : (z.stations.get i).sc.state = .held) :
    opResume r z = ⟨z.putBench i (z.bench i).resume, .done, .none, [0]⟩ := by
  rw [opResume, onNamed_of_station named]
  simp only [if_pos held]
  rfl

theorem opResume_not_held {r : Request} {z : State} {i : StNo} (named : byteAt r.body 0 = i.val)
    (other : (z.stations.get i).sc.state ≠ .held) : opResume r z = ⟨z, .wrongState, .none, [0]⟩ := by
  rw [opResume, onNamed_of_station named]
  simp only [if_neg other]
  rfl

theorem Bench.resume_of_pause {b : Bench} {g : Segment} (reason : b.st.sc.holdReason = some .pause)
    (segment : b.lib.segment b.topRecipe b.st.sc.index = some g) :
    b.resume = (Flow.run (Begun.next g (b.beginSegment g b.st.sc.index))).settle := by
  rw [Bench.resume, Bench.takeOn, if_pos reason, segment]

theorem Bench.resume_of_other {b : Bench} (reason : b.st.sc.holdReason ≠ some .pause) : b.resume =
    (advance 257 b.st.sc.index (b.setSc { b.st.sc with pauseRelease := true })).settle := by
  rw [Bench.resume, Bench.takeOn, if_neg reason]

/-! ### Stepping: one segment reached, then the next -/

/-- The executed-segment count with which stepping goes on. -/
def Flow.Executed (n : Nat) : Flow → Prop
  | .halt _ => True
  | .reach _ c => c.st.sc.executed = n

theorem satAdd_one {max n : Nat} (h : n < max) : satAdd max n 1 = n + 1 := Nat.min_eq_right h

/-- The bench with one more segment executed, below the runaway count. -/
def Bench.counted (b : Bench) : Bench := b.setSc { b.st.sc with executed := b.st.sc.executed + 1 }

theorem Bench.countSegment_few {b : Bench} (few : b.st.sc.executed < 256) : b.countSegment = b.counted := by
  unfold Bench.countSegment
  rw [show satAdd Config.runawayCount b.st.sc.executed 1 = b.st.sc.executed + 1 from satAdd_one few]
  rfl

theorem Bench.afterSegment_executed (b : Bench) (o : SegOutcome) :
    (b.afterSegment o).Executed b.st.sc.executed := by
  unfold Bench.afterSegment
  split
  · trivial
  · trivial
  · split
    · trivial
    · rfl
  · rfl

/-- The executed-segment count with which a segment ends within the event of its beginning. -/
def Begun.Executed (n : Nat) : Begun → Prop
  | .ended _ c => c.st.sc.executed = n
  | _ => True

theorem Bench.takeUp_executed (b : Bench) (g : Segment) (k : Nat) :
    (b.takeUp g k).st.sc.executed = b.st.sc.executed := by rw [Bench.takeUp_sc]

theorem Bench.listenBegun_sc (b : Bench) (g : Segment) (k setNo n : Nat) (t : AngleTable) (p : Point) :
    (b.listenBegun g k setNo n t p).st.sc = (b.takeUp g k).st.sc := rfl

theorem Bench.beginListen_executed (b : Bench) (g : Segment) (k setNo n most limit : Nat) :
    (b.beginListen g k setNo n most limit).Executed b.st.sc.executed := by
  cases hl : entryAt b.lib.limits setNo with
  | none =>
    simp only [Bench.beginListen, hl]
    trivial
  | some ls =>
    cases ht : b.usableAngles n with
    | none =>
      simp only [Bench.beginListen, hl, ht]
      trivial
    | some t =>
      rw [Bench.beginListen_eq hl ht]
      dsimp only
      split
      · rw [Begun.Executed, Bench.writePoint_sc, Bench.listenBegun_sc]
        exact b.takeUp_executed g k
      · trivial

theorem Bench.beginSegment_executed (b : Bench) (g : Segment) (k : Nat) :
    (b.beginSegment g k).Executed b.st.sc.executed := by
  unfold Bench.beginSegment
  split
  · exact b.beginListen_executed g k _ _ _ _
  · dsimp only
    split
    · exact b.takeUp_executed g k
    · rw [Begun.Executed, Bench.startLeak_sc]
      exact b.takeUp_executed g k
  · dsimp only
    split
    · trivial
    · exact b.takeUp_executed g k
  · trivial

theorem Begun.next_executed {n : Nat} {x : Begun} (h : x.Executed n) (g : Segment) :
    (x.next g).Executed n := by
  cases x with
  | running c => trivial
  | faulted c => trivial
  | ended o c =>
    have kept := (c.finishSegment g o).afterSegment_executed o
    rw [Bench.finishSegment_sc] at kept
    rwa [show c.st.sc.executed = n from h] at kept

theorem Bench.call_executed (b : Bench) (r k : Nat) : (b.call r k).Executed b.st.sc.executed := by
  unfold Bench.call
  repeat' split
  all_goals trivial

theorem Bench.chainTo_executed (b : Bench) (r : Nat) : (b.chainTo r).Executed b.st.sc.executed := by
  unfold Bench.chainTo
  repeat' split
  all_goals trivial

theorem Bench.finish_executed (b : Bench) : b.finish.Executed b.st.sc.executed := by
  unfold Bench.finish
  split <;> trivial

theorem Bench.reachOne_executed (b : Bench) (k : Nat) : (b.reachOne k).Executed b.st.sc.executed := by
  unfold Bench.reachOne
  split
  · trivial
  · split
    · exact b.call_executed _ _
    · exact b.chainTo_executed _
    · exact b.finish_executed
    · split
      · trivial
      · exact Begun.next_executed (b.beginSegment_executed _ _) _

/-- A further turn of stepping. -/
theorem advance_succ (n k : Nat) (b : Bench) : advance (n + 1) k b =
    if b.countSegment.st.sc.executed = 256 then b.countSegment.raise .runaway
    else match b.countSegment.reachOne k with
      | .halt c => c
      | .reach k c => advance n k c := rfl

theorem Bench.countSegment_executed (b : Bench) :
    b.countSegment.st.sc.executed = min 256 (b.st.sc.executed + 1) := rfl

/-- The fuel of stepping is enough: more of it changes nothing. -/
theorem advance_fuel {n m k : Nat} {b : Bench} (hn : 256 ≤ b.st.sc.executed + n)
    (hm : 256 ≤ b.st.sc.executed + m) : advance (n + 1) k b = advance (m + 1) k b := by
  induction n generalizing m k b with
  | zero =>
    have last : b.countSegment.st.sc.executed = 256 := by
      rw [Bench.countSegment_executed]
      omega
    rw [advance_succ, advance_succ, if_pos last, if_pos last]
  | succ n ih =>
    rw [advance_succ, advance_succ]
    split
    · rfl
    next more =>
      have counted := b.countSegment_executed
      have kept := b.countSegment.reachOne_executed k
      split
      · rfl
      next c reached =>
        rw [reached, Flow.Executed] at kept
        obtain ⟨m, rfl⟩ : ∃ j, m = j + 1 := ⟨m - 1, by omega⟩
        exact ih (by omega) (by omega)

/-- The segment reached is counted and done; what it leads to is carried to its end. -/
theorem advance_few {b : Bench} (few : b.st.sc.executed < 255) (k : Nat) : advance 257 k b =
    (b.counted.reachOne k).run := by
  have counted := b.countSegment_executed
  have kept := b.countSegment.reachOne_executed k
  rw [advance_succ, if_neg (by omega), ← Bench.countSegment_few (by omega)]
  cases reached : b.countSegment.reachOne k with
  | halt c => rfl
  | reach k c =>
    rw [reached, Flow.Executed] at kept
    exact advance_fuel (n := 255) (m := 256) (by omega) (by omega)

theorem Bench.reachOne_of_working {b : Bench} {g : Segment} {k : Nat}
    (segment : b.lib.segment b.topRecipe k = some g) (working : g.body.isFlow = false) :
    b.reachOne k = if g.pause ∧ b.st.mode = .run ∧ b.st.sc.pauseRelease = false
      then .halt (b.holdAt .pause k) else (b.beginSegment g k).next g := by
  rw [Bench.reachOne, segment]
  cases body : g.body with
  | call r => rw [body] at working; cases working
  | chain r => rw [body] at working; cases working
  | finish => rw [body] at working; cases working
  | _ => simp only [body]

/-- A working segment that PAUSE does not hold begins at once. -/
theorem advance_of_working {b : Bench} {g : Segment} {k : Nat}
    (segment : b.lib.segment b.topRecipe k = some g) (working : g.body.isFlow = false)
    (few : b.st.sc.executed < 255)
    (go : ¬ (g.pause = true ∧ b.st.mode = .run ∧ b.st.sc.pauseRelease = false)) :
    advance 257 k b = Flow.run (Begun.next g (b.counted.beginSegment g k)) := by
  rw [advance_few few, Bench.reachOne_of_working (b := b.counted) segment working]
  exact congrArg Flow.run (if_neg go)

theorem opResume_pause {r : Request} {z : State} {i : StNo} {g : Segment} (named : byteAt r.body 0 = i.val)
    (held : (z.stations.get i).sc.state = .held) (reason : (z.stations.get i).sc.holdReason = some .pause)
    (segment : z.lib.segment (z.bench i).topRecipe (z.stations.get i).sc.index = some g) :
    opResume r z = ⟨z.putBench i (Flow.run (Begun.next g ((z.bench i).beginSegment g
      (z.stations.get i).sc.index))).settle, .done, .none, [0]⟩ := by
  rw [opResume_held named held, Bench.resume_of_pause (b := z.bench i) reason segment]
  rfl

theorem opResume_other {r : Request} {z : State} {i : StNo} (named : byteAt r.body 0 = i.val)
    (held : (z.stations.get i).sc.state = .held) (reason : (z.stations.get i).sc.holdReason ≠ some .pause) :
    opResume r z = ⟨z.putBench i (advance 257 (z.stations.get i).sc.index ((z.bench i).setSc
      { (z.stations.get i).sc with pauseRelease := true })).settle, .done, .none, [0]⟩ := by
  rw [opResume_held named held, Bench.resume_of_other (b := z.bench i) reason]
  rfl

theorem opResume_badField {r : Request} (z : State) (outside : 4 ≤ byteAt r.body 0) :
    opResume r z = ⟨z, .badField, .none, [0]⟩ := by
  rw [opResume, onNamed_outside outside]
  rfl

/-- Settles O29: a segment reached that PAUSE does not hold begins, and the branches of RESUME. -/
theorem resumeTakesUpTheTest : Obligations.ResumeTakesUpTheTest := by
  refine ⟨fun b g k segment working few go => advance_of_working segment working few go,
    fun s r i asks named => ⟨fun held => ⟨fun g reason segment => ?_, fun reason => ?_⟩, fun other => ?_⟩,
    fun s r asks outside => ?_⟩
  · exact replies_of_asks asks rfl (opResume_pause named held reason segment)
  · exact replies_of_asks asks rfl (opResume_other named held reason)
  · exact replies_of_asks asks rfl (opResume_not_held named other)
  · exact replies_of_asks asks rfl (opResume_badField _ outside)

/-! ### CLEAR_REJECT and CLEAR_LINE_STOP -/

theorem Output.clearReject_eq (su : Setup) (o : Output) : o.clearReject su =
    if su.rejectMode = .catch then { o with reject := .ready, pending := 0 } else { o with pending := 0 } := by
  unfold Output.clearReject
  cases su.rejectMode <;> rfl

theorem opClearReject_named {r : Request} {i : StNo} (named : byteAt r.body 0 = i.val) (z : State) :
    opClearReject r z = ⟨{ z with stations := z.stations.set i { z.stations.get i with
      ou := if (z.setups.get i).rejectMode = .catch
        then { (z.stations.get i).ou with reject := .ready, pending := 0 }
        else { (z.stations.get i).ou with pending := 0 } } }, .done, .none, [0]⟩ := by
  rw [opClearReject, onNamed_of_station named, ← Output.clearReject_eq]
  rfl

theorem opClearReject_badField {r : Request} (outside : 4 ≤ byteAt r.body 0) (z : State) :
    opClearReject r z = ⟨z, .badField, .none, [0]⟩ := by
  rw [opClearReject, onNamed_outside outside]
  rfl

theorem opClearLineStop_quiet {z : State} (r : Request) (quiet : z.safetyStop = false) :
    opClearLineStop r z = ⟨{ z with lineStop := false }, .done, .none, [0]⟩ := by
  rw [opClearLineStop, if_neg (by simp [quiet])]
  rfl

theorem opClearLineStop_stop {z : State} (r : Request) (stop : z.safetyStop = true) :
    opClearLineStop r z = ⟨z, .wrongState, .none, [0]⟩ := by
  rw [opClearLineStop, if_pos stop]
  rfl

theorem State.safetyStop_of_stop {z : State} {i : StNo} (stopping : (z.stations.get i).sc.state = .stopping)
    (safety : (z.stations.get i).sc.safety = true) : z.safetyStop = true := by
  by_contra quiet
  exact State.safetyStop_eq_false.1 (Bool.not_eq_true _ ▸ quiet) i ⟨stopping, safety⟩

/-- Settles O32: the branches of CLEAR_REJECT and CLEAR_LINE_STOP. -/
theorem outputsAreCleared : Obligations.OutputsAreCleared := by
  refine fun s r => ⟨fun i asks named => ?_, fun asks none => ?_, fun asks ⟨i, stopping, safety⟩ => ?_,
    fun asks outside => ?_⟩
  · exact replies_of_asks asks rfl (opClearReject_named named _)
  · have quiet : s.settle.safetyStop = false :=
      State.safetyStop_eq_false.2 fun i ⟨stopping, safety⟩ => by simp [none i stopping] at safety
    exact replies_of_asks asks rfl (opClearLineStop_quiet r quiet)
  · exact replies_of_asks asks rfl (opClearLineStop_stop r (State.safetyStop_of_stop stopping safety))
  · exact replies_of_asks asks rfl (opClearReject_badField outside _)

end Sys2Proof.Machine
end

section
/-! SUPPORT. Table writes: LOAD_VARIANT, LOAD_LIMITS and LOAD_ANGLE. -/

namespace Sys2Proof.Machine

/-! ### Table writes -/

theorem State.write_free {e : Entry} {z : State} (free : z.lib.inUse e = 0) (force : Bool) (c : ReplyCode)
    (w : Library → Library) : z.write e force c w = ⟨{ z with lib := w z.lib }, c, .none, [0]⟩ := by
  rw [State.write, if_pos free]
  rfl

theorem State.write_refused {e : Entry} {z : State} (used : z.lib.inUse e ≠ 0) (c : ReplyCode)
    (w : Library → Library) : z.write e false c w = ⟨z, .inUse, .none, [0]⟩ := by
  rw [State.write, if_neg used]
  rfl

theorem State.write_forced {e : Entry} {z : State} (used : z.lib.inUse e ≠ 0) (c : ReplyCode)
    (w : Library → Library) : z.write e true c w =
      ⟨{ (forceUsers e z).1 with lib := w (forceUsers e z).1.lib }, c, .none, putU8 (forceUsers e z).2⟩ := by
  rw [State.write, if_neg used]
  rfl

theorem entryAt_eq_some {α : Type} {t : List (Option α)} {k : Nat} {x : α} :
    entryAt t k = some x ↔ t[k]? = some (some x) := Option.join_eq_some_iff

/-! ### LOAD_VARIANT -/

/-- The slot holds the code. -/
def holdsCode (code : Nat) : Option Variant → Bool
  | some v => decide (v.code = code)
  | none => false

theorem holdsCode_iff {code : Nat} {o : Option Variant} :
    holdsCode code o = true ↔ ∃ v, o = some v ∧ v.code = code := by
  cases o <;> simp [holdsCode]

theorem Library.slotOf_eq (l : Library) (code : Nat) :
    l.slotOf code = l.variants.findIdx? (holdsCode code) := rfl

theorem Library.slotOf_eq_some {l : Library} {code k : Nat} : l.slotOf code = some k ↔
    (∃ v, entryAt l.variants k = some v ∧ v.code = code) ∧
      ∀ j v, j < k → entryAt l.variants j = some v → v.code ≠ code := by
  rw [Library.slotOf_eq, List.findIdx?_eq_some_iff_getElem]
  constructor
  · rintro ⟨bound, here, before⟩
    obtain ⟨v, there, code⟩ := holdsCode_iff.1 here
    refine ⟨⟨v, entryAt_eq_some.2 (List.getElem?_eq_some_iff.2 ⟨bound, there⟩), code⟩,
      fun j w less there same => ?_⟩
    obtain ⟨inside, slot⟩ := List.getElem?_eq_some_iff.1 (entryAt_eq_some.1 there)
    exact absurd (holdsCode_iff.2 ⟨w, slot, same⟩) (before j less)
  · rintro ⟨⟨v, there, code⟩, before⟩
    obtain ⟨bound, slot⟩ := List.getElem?_eq_some_iff.1 (entryAt_eq_some.1 there)
    refine ⟨bound, holdsCode_iff.2 ⟨v, slot, code⟩, fun j less => ?_⟩
    rw [holdsCode_iff]
    rintro ⟨w, held, same⟩
    exact before j w less (entryAt_eq_some.2 (List.getElem?_eq_some_iff.2 ⟨less.trans bound, held⟩)) same

theorem Library.placement_held {l : Library} {code choice k : Nat} (slot : l.slotOf code = some k)
    (fits : choice = 255 ∨ choice = k) : l.placement code choice = .ok k := by
  rw [Library.placement, slot]
  exact if_pos (fits.imp_right Eq.symm)

theorem Library.placement_duplicate {l : Library} {code choice k : Nat} (slot : l.slotOf code = some k)
    (any : choice ≠ 255) (other : choice ≠ k) : l.placement code choice = .error .duplicate := by
  rw [Library.placement, slot]
  exact if_neg fun h => h.elim any fun same => other same.symm

theorem Library.placement_any {l : Library} {code k : Nat} (slot : l.slotOf code = none)
    (absent : l.variants.findIdx? Option.isNone = some k) : l.placement code 255 = .ok k := by
  rw [Library.placement, slot]
  simp [Library.placement.firstAbsent, absent]

theorem Library.placement_full {l : Library} {code : Nat} (slot : l.slotOf code = none)
    (absent : l.variants.findIdx? Option.isNone = none) : l.placement code 255 = .error .tableFull := by
  rw [Library.placement, slot]
  simp [Library.placement.firstAbsent, absent]

theorem Library.placement_named {l : Library} {code k : Nat} (slot : l.slotOf code = none)
    (named : k ≤ 63) : l.placement code k = .ok k := by
  rw [Library.placement, slot]
  exact if_neg (by omega)

/-- The values of a LOAD_VARIANT are in range (R37). -/
def variantInRange (body : List Byte) : Prop :=
  u16At body 0 ≠ 0 ∧ (byteAt body 2 ≤ 63 ∨ byteAt body 2 = 255) ∧ byteAt body 3 ≤ 47 ∧
    100 ≤ u32At body 4 ∧ u32At body 4 ≤ 200000

theorem opLoadVariant_placed {r : Request} (fits : variantInRange r.body) {z : State} {k : Nat}
    (place : z.lib.placement (u16At r.body 0) (byteAt r.body 2) = .ok k) :
    opLoadVariant r z = z.write (.variant k) r.force .done fun l =>
      { l with variants := l.variants.set k (some (variantOf r.body)) } := by
  obtain ⟨code, choice, recipe, low, high⟩ := fits
  rw [opLoadVariant, if_neg code, if_neg (not_not.2 choice), if_neg (not_not.2 recipe),
    if_neg (by simp [within_iff.2 ⟨low, high⟩]), place]

theorem opLoadVariant_unplaced {r : Request} (fits : variantInRange r.body) {z : State} {c : ReplyCode}
    (place : z.lib.placement (u16At r.body 0) (byteAt r.body 2) = .error c) :
    opLoadVariant r z = ⟨z, c, .none, [0]⟩ := by
  obtain ⟨code, choice, recipe, low, high⟩ := fits
  rw [opLoadVariant, if_neg code, if_neg (not_not.2 choice), if_neg (not_not.2 recipe),
    if_neg (by simp [within_iff.2 ⟨low, high⟩]), place]
  rfl

theorem opLoadVariant_badField {r : Request} (bad : u16At r.body 0 = 0 ∨
    (63 < byteAt r.body 2 ∧ byteAt r.body 2 ≠ 255) ∨ 47 < byteAt r.body 3 ∨ u32At r.body 4 < 100 ∨
      200000 < u32At r.body 4) (z : State) : opLoadVariant r z = ⟨z, .badField, .none, [0]⟩ := by
  unfold opLoadVariant
  split
  · rfl
  · split
    · rfl
    · split
      · rfl
      · rw [if_pos (within_false_iff.2 (by omega))]
        rfl

theorem opLoadVariant_free {r : Request} (fits : variantInRange r.body) {z : State} {k : Nat}
    (place : z.lib.placement (u16At r.body 0) (byteAt r.body 2) = .ok k)
    (free : z.lib.inUse (.variant k) = 0) :
    opLoadVariant r z = ⟨{ z with lib := { z.lib with
      variants := z.lib.variants.set k (some (variantOf r.body)) } }, .done, .none, [0]⟩ := by
  rw [opLoadVariant_placed fits place, State.write_free free]

/-- Settles O17: the placement case by case. -/
theorem variantIsPlaced : Obligations.VariantIsPlaced := by
  refine ⟨fun α t k x => entryAt_eq_some, fun l k => ⟨rfl, rfl, rfl, rfl, fun code => Library.slotOf_eq_some⟩,
    fun s r asks code choice recipe low high => ?_,
    fun s r asks bad => replies_of_asks asks rfl (opLoadVariant_badField bad _)⟩
  have fits : variantInRange r.body := ⟨code, choice, recipe, low, high⟩
  refine ⟨fun k free where_ => ?_, fun k slot any other => ?_, fun slot any absent => ?_⟩
  · refine replies_of_asks asks rfl (opLoadVariant_free fits ?_ free)
    obtain ⟨slot, chosen⟩ | ⟨slot, any, absent⟩ | ⟨slot, named, bound⟩ := where_
    · exact Library.placement_held slot chosen
    · rw [any]
      exact Library.placement_any slot absent
    · rw [named]
      exact Library.placement_named slot bound
  · exact replies_of_asks asks rfl (opLoadVariant_unplaced fits (Library.placement_duplicate slot any other))
  · exact replies_of_asks asks rfl (opLoadVariant_unplaced fits
      (by rw [any]; exact Library.placement_full slot absent))

/-! ### LOAD_LIMITS -/

theorem sharesOrder_iff {os : List OrderLine} : sharesOrder os = true ↔ ¬ (os.map OrderLine.order).Nodup := by
  induction os with
  | nil => simp [sharesOrder]
  | cons o os ih =>
    simp only [sharesOrder, Bool.or_eq_true, ih, List.any_eq_true, decide_eq_true_eq, List.map_cons,
      List.nodup_cons, List.mem_map]
    rw [not_and_or, not_not]

theorem edgesGood_iff {a b c : Nat} : edgesGood a b c = true ↔ a < b ∧ b < c ∧ c ≤ 1000000 := by
  simp [edgesGood, and_assoc]

/-- The values of a LOAD_LIMITS are in range (R42). -/
def limitsInRange (body : List Byte) : Prop :=
  byteAt body 0 ≤ 31 ∧ u32At body 1 < u32At body 5 ∧ u32At body 5 < u32At body 9 ∧
    u32At body 9 ≤ 1000000 ∧ ∀ o ∈ orderLinesAt body, 1 ≤ o.order ∧ o.order ≤ 511

/-- The limit set that a LOAD_LIMITS body carries. -/
def limitSetOf (body : List Byte) : LimitSet :=
  { edge1 := u32At body 1, edge2 := u32At body 5, edge3 := u32At body 9, lines := orderLinesAt body
    inUse := 0 }

theorem opLoadLimits_inRange {r : Request} (low : 1 ≤ byteAt r.body 13) (high : byteAt r.body 13 ≤ 8)
    (fits : limitsInRange r.body) (z : State) : opLoadLimits r z =
      if sharesOrder (orderLinesAt r.body) then refuse .duplicate z
      else z.write (.limits (byteAt r.body 0)) r.force .done fun l =>
        { l with limits := l.limits.set (byteAt r.body 0) (some (limitSetOf r.body)) } := by
  obtain ⟨number, first, second, third, orders⟩ := fits
  have all : (orderLinesAt r.body).all (fun o => within 1 511 o.order) = true :=
    List.all_eq_true.2 fun o mem => within_iff.2 (orders o mem)
  rw [opLoadLimits, if_neg (by simp [within_iff.2 ⟨low, high⟩]), if_neg (not_not.2 number),
    if_neg (by simp [edgesGood_iff.2 ⟨first, second, third⟩]), if_neg (by simp [all])]
  rfl

theorem opLoadLimits_distinct {r : Request} (low : 1 ≤ byteAt r.body 13) (high : byteAt r.body 13 ≤ 8)
    (fits : limitsInRange r.body) (distinct : ((orderLinesAt r.body).map OrderLine.order).Nodup)
    (z : State) : opLoadLimits r z = z.write (.limits (byteAt r.body 0)) r.force .done fun l =>
      { l with limits := l.limits.set (byteAt r.body 0) (some (limitSetOf r.body)) } := by
  rw [opLoadLimits_inRange low high fits, if_neg fun h => sharesOrder_iff.1 h distinct]

theorem opLoadLimits_free {r : Request} (low : 1 ≤ byteAt r.body 13) (high : byteAt r.body 13 ≤ 8)
    (fits : limitsInRange r.body) (distinct : ((orderLinesAt r.body).map OrderLine.order).Nodup)
    {z : State} (free : z.lib.inUse (.limits (byteAt r.body 0)) = 0) :
    opLoadLimits r z = ⟨{ z with lib := { z.lib with
      limits := z.lib.limits.set (byteAt r.body 0) (some (limitSetOf r.body)) } }, .done, .none, [0]⟩ := by
  rw [opLoadLimits_distinct low high fits distinct, State.write_free free]

theorem opLoadLimits_shared {r : Request} (low : 1 ≤ byteAt r.body 13) (high : byteAt r.body 13 ≤ 8)
    (fits : limitsInRange r.body) (shared : ¬ ((orderLinesAt r.body).map OrderLine.order).Nodup) (z : State) :
    opLoadLimits r z = ⟨z, .duplicate, .none, [0]⟩ := by
  rw [opLoadLimits_inRange low high fits, if_pos (sharesOrder_iff.2 shared)]
  rfl

theorem opLoadLimits_badLength {r : Request} (bad : byteAt r.body 13 = 0 ∨ 8 < byteAt r.body 13) (z : State) :
    opLoadLimits r z = ⟨z, .badLength, .none, [0]⟩ := by
  rw [opLoadLimits, if_pos (within_false_iff.2 (by omega))]
  rfl

theorem opLoadLimits_badField {r : Request} (low : 1 ≤ byteAt r.body 13) (high : byteAt r.body 13 ≤ 8)
    (bad : 31 < byteAt r.body 0 ∨ u32At r.body 5 ≤ u32At r.body 1 ∨ u32At r.body 9 ≤ u32At r.body 5 ∨
      1000000 < u32At r.body 9 ∨ (∃ o ∈ orderLinesAt r.body, o.order = 0 ∨ 511 < o.order)) (z : State) :
    opLoadLimits r z = ⟨z, .badField, .none, [0]⟩ := by
  rw [opLoadLimits, if_neg (by simp [within_iff.2 ⟨low, high⟩])]
  split
  · rfl
  next number =>
    split
    · rfl
    next edges =>
      rw [Bool.not_eq_false, edgesGood_iff] at edges
      obtain ⟨o, mem, out⟩ := (bad.resolve_left (by omega)).resolve_left (by omega)
        |>.resolve_left (by omega) |>.resolve_left (by omega)
      rw [if_pos (List.all_eq_false.2 ⟨o, mem, by simp [within_false_iff]; omega⟩)]
      rfl

theorem u16At_eq (bs : List Byte) (k : Nat) : u16At bs k = 256 * byteAt bs k + byteAt bs (k + 1) := by
  rw [u16At, Nat.mul_comm]

theorem orderLinesAt_eq (body : List Byte) : orderLinesAt body = (List.range (byteAt body 13)).map fun j =>
    { order := u16At body (14 + 10 * j)
      limits := ⟨u16At body (16 + 10 * j), u16At body (18 + 10 * j), u16At body (20 + 10 * j),
        u16At body (22 + 10 * j)⟩ } := by
  have later : ∀ n j : Nat, 14 + 10 * j + n = 14 + n + 10 * j := by omega
  simp only [orderLinesAt, orderLineAt, later]

/-- Settles O20: the checks of LOAD_LIMITS in order. -/
theorem limitSetIsLoaded : Obligations.LimitSetIsLoaded := by
  refine ⟨fun bs k => ⟨rfl, ?_, ?_⟩, orderLinesAt_eq, fun s r asks low high number first second third orders =>
    ⟨fun distinct free => ?_, fun shared => ?_⟩, fun s r asks => ⟨fun bad => ?_, fun low high bad => ?_⟩⟩
  · exact u16At_eq bs k
  · rw [u32At, u16At_eq, u16At_eq, Nat.add_assoc k 2 1]
    omega
  · exact replies_of_asks asks rfl (opLoadLimits_free low high ⟨number, first, second, third, orders⟩
      distinct free)
  · exact replies_of_asks asks rfl (opLoadLimits_shared low high ⟨number, first, second, third, orders⟩
      shared _)
  · exact replies_of_asks asks rfl (opLoadLimits_badLength bad _)
  · exact replies_of_asks asks rfl (opLoadLimits_badField low high bad _)

/-! ### LOAD_ANGLE -/

theorem s16At_eq (bs : List Byte) (k : Nat) :
    s16At bs k = if u16At bs k < 32768 then (u16At bs k : Int) else u16At bs k - 65536 := by
  have bound := u16At_lt bs k
  rw [s16At, BitVec.toInt_eq_toNat_cond, BitVec.toNat_ofNat, Nat.mod_eq_of_lt bound]
  split <;> split <;> omega

theorem s32At_eq (bs : List Byte) (k : Nat) : s32At bs k =
    if u32At bs k < 2147483648 then (u32At bs k : Int) else u32At bs k - 4294967296 := by
  have bound := u32At_lt bs k
  rw [s32At, BitVec.toInt_eq_toNat_cond, BitVec.toNat_ofNat, Nat.mod_eq_of_lt bound]
  split <;> split <;> omega

theorem s16At_lower (bs : List Byte) (k : Nat) : -32768 ≤ s16At bs k := by
  have bound := u16At_lt bs k
  rw [s16At_eq]
  split <;> omega

theorem angleValuesAt_lower {body : List Byte} {x : Int} (mem : x ∈ angleValuesAt body) : -32768 ≤ x := by
  obtain ⟨j, -, rfl⟩ := List.mem_map.1 mem
  exact s16At_lower _ _

theorem heldValue_eq {x : Int} (h : -32768 ≤ x) : heldValue x = if x = -32768 then -32767 else x := by
  unfold heldValue
  split <;> omega

theorem angleValuesAt_held (body : List Byte) : (angleValuesAt body).map heldValue =
    (angleValuesAt body).map fun x => if x = -32768 then -32767 else x :=
  List.map_congr_left fun _ mem => heldValue_eq (angleValuesAt_lower mem)

theorem angleCode_eq (body : List Byte) : angleCode (angleValuesAt body) =
    if ∃ x ∈ angleValuesAt body, x = -32768 then .clamped else .done := by
  have same : ((angleValuesAt body).any fun x => decide (x < -32767)) = true ↔
      ∃ x ∈ angleValuesAt body, x = -32768 := by
    rw [List.any_eq_true]
    refine exists_congr fun x => and_congr_right fun mem => ?_
    have := angleValuesAt_lower mem
    rw [decide_eq_true_eq]
    omega
  exact if_congr same rfl rfl

/-- The values of a LOAD_ANGLE are in range (R43). -/
def angleInRange (body : List Byte) : Prop :=
  1 ≤ u16At body 5 ∧ u16At body 5 ≤ 256 ∧ byteAt body 0 ≤ 3 ∧ u16At body 1 % 4 = 0 ∧ 16 ≤ u16At body 1 ∧
    u16At body 1 ≤ 1024 ∧ u16At body 3 + u16At body 5 ≤ u16At body 1

theorem opLoadAngle_inRange {r : Request} (fits : angleInRange r.body) (z : State) :
    opLoadAngle r z = if u16At r.body 3 = 0 then loadFirst r z else loadNext r z := by
  obtain ⟨low, high, number, multiple, least, most, inside⟩ := fits
  rw [opLoadAngle, if_neg (by simp [within_iff.2 ⟨low, high⟩]), if_neg (not_not.2 number),
    if_neg (not_not.2 ⟨multiple, within_iff.2 ⟨least, most⟩⟩), if_neg (by omega)]

theorem opLoadAngle_first {r : Request} (fits : angleInRange r.body) (first : u16At r.body 3 = 0)
    (z : State) : opLoadAngle r z = z.write (.angle (byteAt r.body 0)) r.force
      (if ∃ x ∈ angleValuesAt r.body, x = -32768 then .clamped else .done) fun l => { l with
        angles := l.angles.set (byteAt r.body 0) (some
          { state := if (angleValuesAt r.body).length = u16At r.body 1 then .present else .loading
            e := u16At r.body 1
            values := (angleValuesAt r.body).map fun x => if x = -32768 then -32767 else x
            inUse := 0 }) } := by
  rw [opLoadAngle_inRange fits, if_pos first, loadFirst, angleCode_eq, angleTableOf, List.length_map,
    angleValuesAt_held]

theorem opLoadAngle_first_free {r : Request} (fits : angleInRange r.body) (first : u16At r.body 3 = 0)
    {z : State} (free : z.lib.inUse (.angle (byteAt r.body 0)) = 0) : opLoadAngle r z =
      ⟨{ z with lib := { z.lib with
        angles := z.lib.angles.set (byteAt r.body 0) (some
          { state := if (angleValuesAt r.body).length = u16At r.body 1 then .present else .loading
            e := u16At r.body 1
            values := (angleValuesAt r.body).map fun x => if x = -32768 then -32767 else x
            inUse := 0 }) } },
        if ∃ x ∈ angleValuesAt r.body, x = -32768 then .clamped else .done, .none, [0]⟩ := by
  rw [opLoadAngle_first fits first, State.write_free free]

theorem opLoadAngle_later {r : Request} (fits : angleInRange r.body) (later : u16At r.body 3 ≠ 0)
    {z : State} {t : AngleTable} (there : entryAt z.lib.angles (byteAt r.body 0) = some t)
    (next : t.state = .loading ∧ t.e = u16At r.body 1 ∧ t.values.length = u16At r.body 3) :
    opLoadAngle r z = ⟨{ z with lib := { z.lib with
        angles := z.lib.angles.set (byteAt r.body 0) (some
          { state := if t.values.length + (angleValuesAt r.body).length = t.e then .present else .loading
            e := t.e
            values := t.values ++ (angleValuesAt r.body).map fun x => if x = -32768 then -32767 else x
            inUse := t.inUse }) } },
        if ∃ x ∈ angleValuesAt r.body, x = -32768 then .clamped else .done, .none, [0]⟩ := by
  rw [opLoadAngle_inRange fits, if_neg later, loadNext, there]
  dsimp only
  rw [if_pos next, answer, angleCode_eq, angleTableOf, List.length_append, List.length_map,
    angleValuesAt_held]
  rfl

theorem opLoadAngle_broken {r : Request} (fits : angleInRange r.body) (later : u16At r.body 3 ≠ 0)
    {z : State} (none : ∀ t, entryAt z.lib.angles (byteAt r.body 0) = some t →
      ¬ (t.state = .loading ∧ t.e = u16At r.body 1 ∧ t.values.length = u16At r.body 3)) :
    opLoadAngle r z = ⟨z, .badField, .none, [0]⟩ := by
  rw [opLoadAngle_inRange fits, if_neg later, loadNext]
  split
  next t there =>
    rw [if_neg (none t there)]
    rfl
  · rfl

theorem opLoadAngle_badLength {r : Request} (bad : u16At r.body 5 = 0 ∨ 256 < u16At r.body 5) (z : State) :
    opLoadAngle r z = ⟨z, .badLength, .none, [0]⟩ := by
  rw [opLoadAngle, if_pos (within_false_iff.2 (by omega))]
  rfl

theorem opLoadAngle_badField {r : Request} (low : 1 ≤ u16At r.body 5) (high : u16At r.body 5 ≤ 256)
    (bad : 3 < byteAt r.body 0 ∨ u16At r.body 1 % 4 ≠ 0 ∨ u16At r.body 1 < 16 ∨ 1024 < u16At r.body 1 ∨
      u16At r.body 1 < u16At r.body 3 + u16At r.body 5) (z : State) :
    opLoadAngle r z = ⟨z, .badField, .none, [0]⟩ := by
  rw [opLoadAngle, if_neg (by simp [within_iff.2 ⟨low, high⟩])]
  split
  · rfl
  · split
    · rfl
    next good =>
      rw [not_not, within_iff] at good
      rw [if_pos (by omega)]
      rfl

/-- Settles O21: the first part, the later parts, and the refusals. -/
theorem angleTableIsLoadedInParts : Obligations.AngleTableIsLoadedInParts := by
  refine ⟨fun bs k => ⟨s16At_eq bs k, s32At_eq bs k⟩, fun body => rfl,
    fun s r asks low high number multiple least most inside => ?_,
    fun s r asks => ⟨fun bad => replies_of_asks asks rfl (opLoadAngle_badLength bad _),
      fun low high bad => replies_of_asks asks rfl (opLoadAngle_badField low high bad _)⟩⟩
  have fits : angleInRange r.body := ⟨low, high, number, multiple, least, most, inside⟩
  refine ⟨fun first free => ?_, fun t later there loading size held => ?_, fun t later there other => ?_,
    fun later absent => ?_⟩
  · exact replies_of_asks asks rfl (opLoadAngle_first_free fits first free)
  · exact replies_of_asks asks rfl (opLoadAngle_later fits later there ⟨loading, size, held⟩)
  · exact replies_of_asks asks rfl (opLoadAngle_broken fits later
      fun u here => Option.some.inj (there.symm.trans here) ▸ other)
  · exact replies_of_asks asks rfl (opLoadAngle_broken fits later
      fun u here => nomatch absent.symm.trans here)

end Sys2Proof.Machine
end

section
/-! SUPPORT. Segment entries and LOAD_RECIPE. -/

namespace Sys2Proof.Machine

/-! ### Fields behind other bytes -/

theorem byteAt_skip (a b : List Byte) (k : Nat) : byteAt (a ++ b) (a.length + k) = byteAt b k := by
  rw [byteAt_append_right (Nat.le_add_right _ _), Nat.add_sub_cancel_left]

theorem u16At_skip (a b : List Byte) (k : Nat) : u16At (a ++ b) (a.length + k) = u16At b k := by
  simp only [u16At, Nat.add_assoc, byteAt_skip]

theorem u32At_skip (a b : List Byte) (k : Nat) : u32At (a ++ b) (a.length + k) = u32At b k := by
  simp only [u32At, Nat.add_assoc, u16At_skip]

theorem s32At_skip (a b : List Byte) (k : Nat) : s32At (a ++ b) (a.length + k) = s32At b k := by
  simp only [s32At, u32At_skip]

theorem u16At_append_right {a b : List Byte} {i : Nat} (h : a.length ≤ i) :
    u16At (a ++ b) i = u16At b (i - a.length) := by
  rw [← u16At_skip a b, Nat.add_sub_cancel' h]

@[simp] theorem putS32_length (x : Int) : (putS32 x).length = 4 := rfl
@[simp] theorem putMark_length (b : Bool) : (putMark b).length = 1 := rfl

theorem byteAt_putU8 {n : Nat} (h : n < 256) (l : List Byte) : byteAt (putU8 n ++ l) 0 = n := by
  simp [putU8, byteAt]
  omega

theorem byteAt_putMark (b : Bool) (l : List Byte) :
    byteAt (putMark b ++ l) 0 = if b = true then 1 else 0 := by
  cases b <;> rfl

theorem u16At_front_mod (n : Nat) (l : List Byte) : u16At (putU16 n ++ l) 0 = n % 65536 := by
  simp [u16At, putU16, putU8, byteAt]
  omega

theorem u16At_front {n : Nat} (h : n < 65536) (l : List Byte) : u16At (putU16 n ++ l) 0 = n := by
  rw [u16At_front_mod, Nat.mod_eq_of_lt h]

theorem u32At_front {n : Nat} (h : n < 4294967296) (l : List Byte) : u32At (putU32 n ++ l) 0 = n := by
  have low := u16At_append_right (a := putU16 (n / 65536)) (b := putU16 n ++ l) (i := 2) (by simp)
  rw [u32At, putU32, List.append_assoc, u16At_front_mod, Nat.zero_add, low, putU16_length, Nat.sub_self,
    u16At_front_mod]
  omega

theorem s32At_front {x : Int} (low : -2147483648 ≤ x) (high : x < 2147483648) (l : List Byte) :
    s32At (putS32 x ++ l) 0 = x := by
  rw [putS32_eq, s32At_eq, u32At_front (by omega)]
  split <;> omega

/-! ### Segment entries -/

/-- The body that an entry of a kind is read as. -/
def entryBody (bs : List Byte) (o : Nat) : SegKind → SegBody
  | .ramp => .ramp (motionAt bs o) (u32At bs (o + 14)) (u32At bs (o + 18))
  | .dwell => .dwell (motionAt bs o) (u32At bs (o + 14)) (u32At bs (o + 18))
  | .listen => .listen (motionAt bs o) (u32At bs (o + 14)) (byteAt bs (o + 18)) (byteAt bs (o + 19))
      (byteAt bs (o + 20))
  | .leakStart => .leakStart
      { fillTarget := u32At bs (o + 2), fillTimeout := u32At bs (o + 6), settle := u32At bs (o + 10)
        ventThreshold := u32At bs (o + 14), ventTimeout := u32At bs (o + 18), measure := u16At bs (o + 22)
        holdLimit := u16At bs (o + 24), averaging := byteAt bs (o + 26) }
  | .leakWait => .leakWait (u32At bs (o + 2))
  | .call => .call (byteAt bs (o + 2))
  | .chain => .chain (byteAt bs (o + 2))
  | .finish => .finish

theorem segBodyAt_eq_some {bs : List Byte} {o : Nat} {body : SegBody} : segBodyAt bs o = some body ↔
    byteAt bs o = body.kind.code ∧ body = entryBody bs o body.kind := by
  constructor
  · intro read
    unfold segBodyAt at read
    split at read <;> cases read <;> exact ⟨‹_›, rfl⟩
  · rintro ⟨code, same⟩
    rw [same, segBodyAt, code]
    cases body <;> rfl

theorem markOf_eq_some {n : Nat} {b : Bool} : markOf n = some b ↔ n = if b = true then 1 else 0 := by
  match n with
  | 0 => cases b <;> simp [markOf]
  | 1 => cases b <;> simp [markOf]
  | n + 2 => cases b <;> simp [markOf]

theorem segmentAt_eq_some {bs : List Byte} {o : Nat} {g : Segment} : segmentAt bs o = some g ↔
    g.inRange = true ∧ byteAt bs o = g.body.kind.code ∧
      byteAt bs (o + 1) = (if g.pause = true then 1 else 0) ∧ g.body = entryBody bs o g.body.kind := by
  obtain ⟨pause, body⟩ := g
  rw [← markOf_eq_some (b := pause)]
  unfold segmentAt
  constructor
  · intro read
    split at read
    next x y hx hy =>
      split at read
      next fits =>
        cases read
        exact ⟨fits, (segBodyAt_eq_some.1 hx).1, hy, (segBodyAt_eq_some.1 hx).2⟩
      · cases read
    · cases read
  · rintro ⟨fits, code, mark, same⟩
    rw [segBodyAt_eq_some.2 ⟨code, same⟩, mark]
    exact if_pos fits

theorem segmentsAt_eq_some {bs : List Byte} {n first : Nat} {gs : List Segment} :
    segmentsAt bs n first = some gs ↔
      gs.length = n ∧ ∀ j g, gs[j]? = some g → segmentAt bs (first + 30 * j) = some g := by
  induction n generalizing first gs with
  | zero =>
    cases gs <;> simp [segmentsAt]
  | succ n ih =>
    have split : segmentsAt bs (n + 1) first = some gs ↔ ∃ g rest, gs = g :: rest ∧
        segmentAt bs first = some g ∧ segmentsAt bs n (first + 30) = some rest := by
      rw [segmentsAt]
      cases segmentAt bs first with
      | none => simp
      | some g => cases segmentsAt bs n (first + 30) <;> simp [eq_comm]
    rw [split]
    constructor
    · rintro ⟨g, rest, rfl, here, later⟩
      obtain ⟨length, all⟩ := ih.1 later
      refine ⟨by simp [length], fun j x there => ?_⟩
      cases j with
      | zero => exact Option.some.inj there ▸ here
      | succ j =>
        have := all j x there
        rwa [show first + 30 * (j + 1) = first + 30 + 30 * j by omega]
    · rintro ⟨length, all⟩
      obtain ⟨g, rest, rfl⟩ : ∃ g rest, gs = g :: rest := List.exists_cons_of_length_eq_add_one length
      refine ⟨g, rest, rfl, all 0 g rfl, ih.2 ⟨by simpa using length, fun j x there => ?_⟩⟩
      have := all (j + 1) x there
      rwa [show first + 30 * (j + 1) = first + 30 + 30 * j by omega] at this

theorem withinS_iff {lo hi n : Int} : withinS lo hi n = true ↔ lo ≤ n ∧ n ≤ hi := by simp [withinS]

theorem Motion.inRange_iff {m : Motion} : m.inRange = true ↔ -1000000 ≤ m.target ∧ m.target ≤ 1000000 ∧
    (1 ≤ m.rate ∧ m.rate ≤ 100000) ∧ (0 ≤ m.band ∧ m.band ≤ 100000) ∧ 1 ≤ m.persist ∧ m.persist ≤ 255 := by
  simp only [Motion.inRange, Bool.and_eq_true, within_iff, withinS_iff, and_assoc]

theorem Segment.inRange_iff {g : Segment} :
    g.inRange = true ↔ g.body.inRange = true ∧ (g.body.isFlow = true → g.pause = false) := by
  obtain ⟨pause, body⟩ := g
  cases pause <;> cases h : body.isFlow <;> simp [Segment.inRange, h]

theorem putMark_eq (b : Bool) : putMark b = putU8 (if b = true then 1 else 0) := rfl

theorem Segment.bytes_length (g : Segment) : g.bytes.length = 30 := by
  obtain ⟨pause, body⟩ := g
  cases body <;> rfl

theorem segmentsBytes_length (gs : List Segment) : (segmentsBytes gs).length = 30 * gs.length := by
  induction gs with
  | nil => rfl
  | cons g gs ih =>
    simp [segmentsBytes, ih, Segment.bytes_length]
    omega

theorem segmentsBytes_eq (gs : List Segment) : segmentsBytes gs = (gs.map Segment.bytes).flatten := by
  induction gs with
  | nil => rfl
  | cons g gs ih => simp [segmentsBytes, ih]

theorem motionAt_skip (a b : List Byte) : motionAt (a ++ b) a.length = motionAt b 0 := by
  simp only [motionAt, s32At_skip, u32At_skip, byteAt_skip, Nat.zero_add]

theorem segmentAt_skip (a b : List Byte) : segmentAt (a ++ b) a.length = segmentAt b 0 := by
  have kind : byteAt (a ++ b) a.length = byteAt b 0 := byteAt_skip a b 0
  simp only [segmentAt, segBodyAt, motionAt_skip, u32At_skip, u16At_skip, byteAt_skip, Nat.zero_add, kind]

/-- The kind and the mark of an entry spelled. -/
theorem Segment.bytes_front (g : Segment) (l : List Byte) :
    byteAt (g.bytes ++ l) 0 = g.body.kind.code ∧
      byteAt (g.bytes ++ l) 1 = if g.pause = true then 1 else 0 := by
  refine ⟨?_, ?_⟩
  · rw [Segment.bytes, List.append_assoc, List.append_assoc, byteAt_putU8]
    cases g.body.kind <;> decide
  · rw [Segment.bytes, List.append_assoc, List.append_assoc, byteAt_append_right (by simp), putU8_length,
      Nat.sub_self, byteAt_putMark]

section
variable (n k : Nat) (x : Int) (b : Bool) (l : List Byte)

@[simp] theorem byteAt_putU8_succ : byteAt (putU8 n ++ l) (k + 1) = byteAt l k := rfl
@[simp] theorem u16At_putU8_succ : u16At (putU8 n ++ l) (k + 1) = u16At l k := rfl
@[simp] theorem u32At_putU8_succ : u32At (putU8 n ++ l) (k + 1) = u32At l k := rfl
@[simp] theorem s32At_putU8_succ : s32At (putU8 n ++ l) (k + 1) = s32At l k := rfl
@[simp] theorem byteAt_putU16_succ : byteAt (putU16 n ++ l) (k + 2) = byteAt l k := rfl
@[simp] theorem u16At_putU16_succ : u16At (putU16 n ++ l) (k + 2) = u16At l k := rfl
@[simp] theorem byteAt_putU32_succ : byteAt (putU32 n ++ l) (k + 4) = byteAt l k := rfl
@[simp] theorem u16At_putU32_succ : u16At (putU32 n ++ l) (k + 4) = u16At l k := rfl
@[simp] theorem u32At_putU32_succ : u32At (putU32 n ++ l) (k + 4) = u32At l k := rfl
@[simp] theorem byteAt_putS32_succ : byteAt (putS32 x ++ l) (k + 4) = byteAt l k := rfl
@[simp] theorem u32At_putS32_succ : u32At (putS32 x ++ l) (k + 4) = u32At l k := rfl

end

/-- The parameters of a segment in range are read back from its entry. -/
theorem SegBody.read_bytes {g : Segment} (fits : g.body.inRange = true) (l : List Byte) :
    g.body = entryBody (g.bytes ++ l) 0 g.body.kind := by
  obtain ⟨pause, body⟩ := g
  cases body with
  | ramp m most limit =>
    simp only [SegBody.inRange, Bool.and_eq_true, within_iff, Motion.inRange_iff] at fits
    simp (disch := omega) [entryBody, SegBody.kind, Segment.bytes, SegBody.bytes, motionAt, putMark_eq,
      byteAt_putU8, u32At_front, s32At_front]
  | dwell m most limit =>
    simp only [SegBody.inRange, Bool.and_eq_true, within_iff, Motion.inRange_iff] at fits
    simp (disch := omega) [entryBody, SegBody.kind, Segment.bytes, SegBody.bytes, motionAt, putMark_eq,
      byteAt_putU8, u32At_front, s32At_front]
  | listen m limit set n most =>
    simp only [SegBody.inRange, Bool.and_eq_true, within_iff, Motion.inRange_iff] at fits
    simp (disch := omega) [entryBody, SegBody.kind, Segment.bytes, SegBody.bytes, motionAt, putMark_eq,
      byteAt_putU8, u32At_front, s32At_front]
  | leakStart p =>
    simp only [SegBody.inRange, Bool.and_eq_true, within_iff, LeakParams.inRange] at fits
    simp (disch := omega) [entryBody, SegBody.kind, Segment.bytes, SegBody.bytes, putMark_eq,
      byteAt_putU8, u16At_front, u32At_front]
  | leakWait limit =>
    simp only [SegBody.inRange, within_iff] at fits
    simp (disch := omega) [entryBody, SegBody.kind, Segment.bytes, SegBody.bytes, putMark_eq, u32At_front]
  | call r =>
    simp only [SegBody.inRange, within_iff] at fits
    simp (disch := omega) [entryBody, SegBody.kind, Segment.bytes, SegBody.bytes, putMark_eq, byteAt_putU8]
  | chain r =>
    simp only [SegBody.inRange, within_iff] at fits
    simp (disch := omega) [entryBody, SegBody.kind, Segment.bytes, SegBody.bytes, putMark_eq, byteAt_putU8]
  | finish => rfl

theorem segmentAt_bytes {g : Segment} (fits : g.inRange = true) (l : List Byte) :
    segmentAt (g.bytes ++ l) 0 = some g := by
  obtain ⟨kind, mark⟩ := g.bytes_front l
  exact segmentAt_eq_some.2 ⟨fits, kind, mark, SegBody.read_bytes (Segment.inRange_iff.1 fits).1 l⟩

theorem segmentsAt_bytes {gs : List Segment} (fits : ∀ g ∈ gs, g.inRange = true) (before after : List Byte) :
    segmentsAt (before ++ segmentsBytes gs ++ after) gs.length before.length = some gs := by
  induction gs generalizing before with
  | nil => rfl
  | cons g gs ih =>
    have here : segmentAt (before ++ segmentsBytes (g :: gs) ++ after) before.length = some g := by
      rw [List.append_assoc, segmentAt_skip, segmentsBytes, List.append_assoc]
      exact segmentAt_bytes (fits g List.mem_cons_self) _
    have rest := ih (fun x mem => fits x (List.mem_cons_of_mem _ mem)) (before ++ g.bytes)
    rw [List.length_append, Segment.bytes_length] at rest
    rw [List.length_cons, segmentsAt, here]
    rw [segmentsBytes, ← List.append_assoc before, rest]

/-- Settles O18: an entry is read as the segment that spells it, and each entry takes 30 bytes. -/
theorem segmentEntriesRoundTrip : Obligations.SegmentEntriesRoundTrip := by
  refine ⟨fun g => ⟨?_, ?_⟩, segmentsBytes_eq, fun bs n first gs => ?_, fun before after gs fits =>
    ⟨segmentsBytes_length gs, segmentsAt_bytes fits before after⟩⟩
  · rw [Segment.inRange_iff]
    obtain ⟨pause, body⟩ := g
    cases body <;>
      simp [SegBody.inRange, SegBody.isFlow, LeakParams.inRange, Motion.inRange_iff, within_iff, and_assoc]
  · obtain ⟨pause, body⟩ := g
    cases body <;> simp [Segment.bytes, SegBody.bytes, SegBody.kind, SegKind.code, putMark_eq]
  · rw [segmentsAt_eq_some]
    refine and_congr_right fun _ => forall_congr' fun j => forall_congr' fun g => imp_congr_right fun _ => ?_
    rw [segmentAt_eq_some]
    cases g.body <;> rfl

/-! ### LOAD_RECIPE -/

theorem endsWell_iff {gs : List Segment} : endsWell gs = true ↔
    ∃ g, gs.getLast? = some g ∧ (g.body = .finish ∨ ∃ r, g.body = .chain r) := by
  unfold endsWell
  cases gs.getLast? with
  | none => simp
  | some g => cases h : g.body <;> simp [h]

theorem opLoadRecipe_good {r : Request} {stop : Bool} {gs : List Segment} (low : 1 ≤ byteAt r.body 2)
    (high : byteAt r.body 2 ≤ 32) (number : byteAt r.body 0 ≤ 47)
    (mark : byteAt r.body 1 = if stop = true then 1 else 0)
    (segments : segmentsAt r.body (byteAt r.body 2) 3 = some gs) (well : endsWell gs = true) (z : State) :
    opLoadRecipe r z = z.write (.recipe (byteAt r.body 0)) r.force .done fun l => { l with
      recipes := l.recipes.set (byteAt r.body 0)
        (some { stopOnFail := stop, segments := gs, inUse := 0 }) } := by
  rw [opLoadRecipe, if_neg (by simp [within_iff.2 ⟨low, high⟩]), if_neg (not_not.2 number),
    markOf_eq_some.2 mark, segments]
  exact if_pos well

theorem opLoadRecipe_badLength {r : Request} (bad : byteAt r.body 2 = 0 ∨ 32 < byteAt r.body 2) (z : State) :
    opLoadRecipe r z = ⟨z, .badLength, .none, [0]⟩ := by
  rw [opLoadRecipe, if_pos (within_false_iff.2 (by omega))]
  rfl

theorem opLoadRecipe_badField {r : Request} (low : 1 ≤ byteAt r.body 2) (high : byteAt r.body 2 ≤ 32)
    (bad : 47 < byteAt r.body 0 ∨ 1 < byteAt r.body 1 ∨ segmentsAt r.body (byteAt r.body 2) 3 = none)
    (z : State) : opLoadRecipe r z = ⟨z, .badField, .none, [0]⟩ := by
  rw [opLoadRecipe, if_neg (by simp [within_iff.2 ⟨low, high⟩])]
  split
  · rfl
  next number =>
    obtain mark | none := bad.resolve_left (by omega)
    · rw [markOf_beyond mark]
      rfl
    · rw [none]
      cases markOf (byteAt r.body 1) <;> rfl

theorem opLoadRecipe_badEnd {r : Request} {gs : List Segment} (low : 1 ≤ byteAt r.body 2)
    (high : byteAt r.body 2 ≤ 32) (segments : segmentsAt r.body (byteAt r.body 2) 3 = some gs)
    (open_ : endsWell gs = false) (z : State) : opLoadRecipe r z = ⟨z, .badField, .none, [0]⟩ := by
  rw [opLoadRecipe, if_neg (by simp [within_iff.2 ⟨low, high⟩])]
  split
  · rfl
  · rw [segments]
    cases markOf (byteAt r.body 1) with
    | none => rfl
    | some stop => exact if_neg (by simp [open_])

/-! ### READ_ENTRY -/

theorem opReadEntry_ok {r : Request} {z : State} {e : Entry}
    (named : z.lib.named (byteAt r.body 0) (u16At r.body 1) = .ok e)
    (part : partGood (byteAt r.body 0) (byteAt r.body 3) = true)
    (inside : z.lib.beyond (byteAt r.body 3) e = false) :
    opReadEntry r z = ⟨z, .done, .entry, putU8 (byteAt r.body 0) ++ putU16 (u16At r.body 1) ++
      putU8 (z.lib.inUse e) ++ z.lib.contents (byteAt r.body 3) e⟩ := by
  rw [opReadEntry, named]
  dsimp only
  rw [if_neg (by simp [part]), if_neg (by simp [inside])]
  rfl

theorem Library.named_recipe {l : Library} {n : Nat} (number : n ≤ 47) (there : entryAt l.recipes n ≠ none) :
    l.named 2 n = .ok (.recipe n) := by
  have present : (entryAt l.recipes n).isSome = true := Option.isSome_iff_ne_none.2 there
  simp [Library.named, Library.named.pick, number, present]

/-- The contents of a recipe entry that holds `stop` and `gs`. -/
theorem opReadEntry_recipe {q : Request} {z : State} {n : Nat} {stop : Bool} {gs : List Segment}
    (number : n ≤ 47) (body : q.body = [2, 0] ++ putU8 n ++ [0])
    (there : entryAt z.lib.recipes n = some { stopOnFail := stop, segments := gs, inUse := 0 }) :
    opReadEntry q z = ⟨z, .done, .entry, [2, 0] ++ putU8 n ++ [0] ++
      (putU8 n ++ putMark stop ++ putU8 gs.length ++ segmentsBytes gs)⟩ := by
  have selector : byteAt q.body 0 = 2 := by rw [body]; rfl
  have high : byteAt ([2, 0] ++ putU8 n ++ [0]) 1 = 0 := rfl
  have low : byteAt ([2, 0] ++ putU8 n ++ [0]) (1 + 1) = n := byteAt_putU8 (n := n) (by omega) [0]
  have key : u16At q.body 1 = n := by rw [body, u16At_eq, high, low, Nat.mul_zero, Nat.zero_add]
  have part : byteAt q.body 3 = 0 := by rw [body]; rfl
  rw [opReadEntry_ok (e := .recipe n) (by rw [selector, key]; exact Library.named_recipe number (by simp [there]))
    (by rw [selector, part]; rfl) rfl, selector, key]
  simp [Library.inUse, Library.contents, there, Recipe.bytes, putU16, Nat.div_eq_of_lt (show n < 256 by omega)]
  rfl

/-- The body of a LOAD_RECIPE spelled, and its fields read back. -/
theorem recipeBody_read {body : List Byte} {n : Nat} {stop : Bool} {gs : List Segment} (number : n ≤ 47)
    (few : gs.length ≤ 32) (fits : ∀ g ∈ gs, g.inRange = true)
    (spelled : body = putU8 n ++ putMark stop ++ putU8 gs.length ++ segmentsBytes gs) :
    byteAt body 0 = n ∧ byteAt body 1 = (if stop = true then 1 else 0) ∧ byteAt body 2 = gs.length ∧
      segmentsAt body gs.length 3 = some gs := by
  have segments := segmentsAt_bytes fits (putU8 n ++ putMark stop ++ putU8 gs.length) []
  rw [List.append_nil, ← spelled] at segments
  refine ⟨?_, ?_, ?_, segments⟩
  · rw [spelled, List.append_assoc, List.append_assoc]
    exact byteAt_putU8 (by omega) _
  · rw [spelled, List.append_assoc, List.append_assoc]
    exact byteAt_putMark stop (putU8 gs.length ++ segmentsBytes gs)
  · rw [spelled, List.append_assoc, List.append_assoc]
    exact byteAt_putU8 (n := gs.length) (by omega) (segmentsBytes gs)

theorem opLoadRecipe_free {r : Request} {n : Nat} {stop : Bool} {gs : List Segment} (number : n ≤ 47)
    (some : 1 ≤ gs.length) (few : gs.length ≤ 32) (fits : ∀ g ∈ gs, g.inRange = true)
    (well : endsWell gs = true)
    (spelled : r.body = putU8 n ++ putMark stop ++ putU8 gs.length ++ segmentsBytes gs) {z : State}
    (free : z.lib.inUse (.recipe n) = 0) : opLoadRecipe r z = ⟨{ z with lib := { z.lib with
      recipes := z.lib.recipes.set n (.some { stopOnFail := stop, segments := gs, inUse := 0 }) } },
      .done, .none, [0]⟩ := by
  obtain ⟨key, mark, count, segments⟩ := recipeBody_read number few fits spelled
  rw [opLoadRecipe_good (by omega) (by omega) (by omega) mark (by rw [count]; exact segments) well, key,
    State.write_free free]

theorem recipe_read_back {q : Request} {z : State} {n : Nat} {stop : Bool} {gs : List Segment}
    (number : n ≤ 47) (length : z.lib.recipes.length = 48) (body : q.body = [2, 0] ++ putU8 n ++ [0]) :
    opReadEntry q { z with lib := { z.lib with
      recipes := z.lib.recipes.set n (some { stopOnFail := stop, segments := gs, inUse := 0 }) } } =
      ⟨{ z with lib := { z.lib with
        recipes := z.lib.recipes.set n (some { stopOnFail := stop, segments := gs, inUse := 0 }) } },
        .done, .entry, [2, 0] ++ putU8 n ++ [0] ++
          (putU8 n ++ putMark stop ++ putU8 gs.length ++ segmentsBytes gs)⟩ :=
  opReadEntry_recipe number body ((entryAt_set_self _ _ _).trans (if_pos (by omega)))

/-- Settles O19: a recipe loaded, read back, and the refusals of LOAD_RECIPE. -/
theorem recipeIsLoadedAndReadBack : Obligations.RecipeIsLoadedAndReadBack := by
  refine ⟨fun gs => endsWell_iff, fun s r q n stop gs asks number length fits some few well spelled free read =>
    ⟨_, replies_of_asks asks rfl (opLoadRecipe_free number some few fits well spelled free), rfl, ?_⟩,
    fun s r asks => ⟨fun bad => ?_, fun low high bad => ?_, fun gs low high segments open_ => ?_⟩⟩
  · rw [spelled]
    exact recipe_read_back number length read
  · exact replies_of_asks asks rfl (opLoadRecipe_badLength bad _)
  · exact replies_of_asks asks rfl (opLoadRecipe_badField low high bad _)
  · exact replies_of_asks asks rfl (opLoadRecipe_badEnd low high segments open_ _)

/-! ### DELETE_ENTRY and READ_ENTRY -/

end Sys2Proof.Machine
end

section
/-! SUPPORT. DELETE_ENTRY, READ_ENTRY and the settings. -/

namespace Sys2Proof.Machine

/-! ### The entry that a selector and a key name -/

theorem Library.slotOf_eq_none {l : Library} {code : Nat} : l.slotOf code = none ↔
    ∀ k v, entryAt l.variants k = some v → v.code ≠ code := by
  rw [Library.slotOf_eq, List.findIdx?_eq_none_iff]
  constructor
  · intro none k v there same
    have mem := List.mem_of_getElem? (entryAt_eq_some.1 there)
    simpa [holdsCode, same] using none _ mem
  · intro none o mem
    rw [← Bool.not_eq_true, holdsCode_iff]
    rintro ⟨v, rfl, same⟩
    obtain ⟨k, there⟩ := List.getElem?_of_mem mem
    exact none k v (entryAt_eq_some.2 there) same

/-- A key of a table of which `top` is the last index. -/
theorem Library.named_spec {α : Type} {l : Library} {sel key top : Nat} {t : List (Option α)} {e : Entry}
    (h : l.named sel key = Library.named.pick (decide (key ≤ top)) (entryAt t key).isSome e) :
    (top < key → l.named sel key = .error .badField) ∧
    (key ≤ top → entryAt t key = none → l.named sel key = .error .noEntry) ∧
    (key ≤ top → entryAt t key ≠ none → l.named sel key = .ok e) := by
  rw [h, Library.named.pick]
  refine ⟨fun out => by simp [out], fun inside absent => by simp [inside, absent], fun inside there => ?_⟩
  simp [inside, Option.isSome_iff_ne_none.2 there]

theorem Library.named_absentCode {l : Library} {key : Nat} (real : key ≠ 0) (absent : l.slotOf key = none) :
    l.named 0 key = .error .noEntry := by
  simp [Library.named, real, absent]

theorem Library.named_code {l : Library} {key k : Nat} (real : key ≠ 0) (slot : l.slotOf key = some k) :
    l.named 0 key = .ok (.variant k) := by
  simp [Library.named, real, slot]

theorem Library.named_beyond {l : Library} {sel : Nat} (h : 5 ≤ sel) (key : Nat) :
    l.named sel key = .error .badField := by
  match sel, h with
  | n + 5, _ => rfl

theorem Library.beyond_iff {l : Library} {part : Nat} {e : Entry} : l.beyond part e = true ↔
    ∃ k, e = .angle k ∧ ∀ x, entryAt l.angles k = some x → x.values.length ≤ 256 * part := by
  cases e with
  | angle k => cases h : entryAt l.angles k <;> simp [Library.beyond, h]
  | variant k | recipe k | limits k => simp [Library.beyond]

theorem entryAt_deleted {α : Type} (t : List (Option α)) (k : Nat) : entryAt (t.set k none) k = none := by
  rw [entryAt_set_self]
  split <;> rfl

theorem AngleState.code_eq (x : AngleState) : x.code = if x = .loading then 1 else 2 := by
  cases x <;> rfl

/-! ### DELETE_ENTRY and READ_ENTRY -/

theorem opDeleteEntry_ok {r : Request} {z : State} {e : Entry}
    (named : z.lib.named (byteAt r.body 0) (u16At r.body 1) = .ok e) :
    opDeleteEntry r z = z.write e r.force .done fun l => l.delete e := by
  rw [opDeleteEntry, named]

theorem opDeleteEntry_free {r : Request} {z : State} {e : Entry}
    (named : z.lib.named (byteAt r.body 0) (u16At r.body 1) = .ok e) (free : z.lib.inUse e = 0) :
    opDeleteEntry r z = ⟨{ z with lib := z.lib.delete e }, .done, .none, [0]⟩ := by
  rw [opDeleteEntry_ok named, State.write_free free]

theorem opDeleteEntry_error {r : Request} {z : State} {c : ReplyCode}
    (named : z.lib.named (byteAt r.body 0) (u16At r.body 1) = .error c) :
    opDeleteEntry r z = ⟨z, c, .none, [0]⟩ := by
  rw [opDeleteEntry, named]
  rfl

theorem partGood_iff {sel part : Nat} :
    partGood sel part = true ↔ (sel ≠ 4 → part = 0) ∧ (sel = 4 → part ≤ 3) := by
  unfold partGood
  split <;> simp [*]

theorem opReadEntry_noEntry {r : Request} {z : State}
    (named : z.lib.named (byteAt r.body 0) (u16At r.body 1) = .error .noEntry) : opReadEntry r z =
      ⟨z, if partGood (byteAt r.body 0) (byteAt r.body 3) then .noEntry else .badField, .none, [0]⟩ := by
  rw [opReadEntry, named]
  dsimp only
  split <;> rfl

theorem opReadEntry_badKey {r : Request} {z : State}
    (named : z.lib.named (byteAt r.body 0) (u16At r.body 1) = .error .badField) :
    opReadEntry r z = ⟨z, .badField, .none, [0]⟩ := by
  rw [opReadEntry, named]
  rfl

theorem opReadEntry_badPart {r : Request} {z : State} {e : Entry}
    (named : z.lib.named (byteAt r.body 0) (u16At r.body 1) = .ok e)
    (bad : partGood (byteAt r.body 0) (byteAt r.body 3) = false ∨ z.lib.beyond (byteAt r.body 3) e = true) :
    opReadEntry r z = ⟨z, .badField, .none, [0]⟩ := by
  rw [opReadEntry, named]
  dsimp only
  split
  · rfl
  next good =>
    rw [if_pos (bad.resolve_left good)]
    rfl

/-- Settles O22: the entry named, what a delete and a read do with it, and the refusals. -/
theorem entriesAreDeletedAndRead : Obligations.EntriesAreDeletedAndRead := by
  refine ⟨fun l key => ⟨Library.named_spec rfl, Library.named_spec rfl, Library.named_spec rfl,
    Library.named_spec rfl, rfl, fun real absent => Library.named_absentCode real (Library.slotOf_eq_none.2 absent),
    fun k v real there code before => Library.named_code real (Library.slotOf_eq_some.2 ⟨⟨v, there, code⟩, before⟩),
    fun part e => Library.beyond_iff, fun sel h => Library.named_beyond h key⟩, fun l k => ?_, fun l k p => ?_,
    fun s r => ?_⟩
  · exact ⟨⟨entryAt_deleted _ k, fun j ne => entryAt_set_ne _ ne _, rfl⟩,
      ⟨entryAt_deleted _ k, fun j ne => entryAt_set_ne _ ne _, rfl⟩,
      ⟨entryAt_deleted _ k, fun j ne => entryAt_set_ne _ ne _, rfl⟩,
      ⟨entryAt_deleted _ k, fun j ne => entryAt_set_ne _ ne _, rfl⟩⟩
  · refine ⟨fun v there => ?_, fun e there => ?_, fun e there => ?_, fun e there => ?_⟩
    · simp [Library.contents, there, Variant.bytes]
    · simp [Library.contents, there, Recipe.bytes]
    · simp only [Library.contents, there]
      rfl
    · simp [Library.contents, there, AngleTable.bytes, AngleTable.part, AngleState.code_eq]
  · refine ⟨fun e asks named free => ?_, fun asks sel key absent => ?_, fun asks sel real absent => ?_,
      fun asks sel => ?_, fun c asks named => ?_, fun asks named => ⟨fun other angle => ?_, fun bad => ?_⟩,
      fun asks named => ?_, fun e asks sel named bad => ?_, fun e asks named other angle inside => ?_,
      fun e asks named other part => ?_, fun asks sel => ?_⟩
    · exact replies_of_asks asks rfl (opDeleteEntry_free named free)
    · exact replies_of_asks asks rfl (opDeleteEntry_error
        (by rw [sel]; exact (Library.named_spec (top := 47) rfl).2.1 key absent))
    · exact replies_of_asks asks rfl (opDeleteEntry_error (by rw [sel]; exact Library.named_absentCode real absent))
    · exact replies_of_asks asks rfl (opDeleteEntry_error (Library.named_beyond sel _))
    · exact replies_of_asks asks rfl (opDeleteEntry_error named)
    · refine replies_of_asks asks rfl ((opReadEntry_noEntry named).trans ?_)
      rw [if_pos (partGood_iff.2 ⟨other, angle⟩)]
    · refine replies_of_asks asks rfl ((opReadEntry_noEntry named).trans ?_)
      rw [if_neg (by rw [partGood_iff]; omega)]
    · exact replies_of_asks asks rfl (opReadEntry_badKey named)
    · rw [← sel] at named
      refine replies_of_asks asks rfl (opReadEntry_badPart named ?_)
      rw [← Bool.not_eq_true, partGood_iff, Library.beyond_iff]
      refine bad.imp (by omega) fun ⟨x, there, short⟩ => ⟨e, rfl, fun y here => ?_⟩
      rwa [← Option.some.inj (there.symm.trans here)]
    · exact replies_of_asks asks rfl (opReadEntry_ok named (partGood_iff.2 ⟨other, angle⟩) inside)
    · refine replies_of_asks asks rfl (opReadEntry_badPart named (.inl ?_))
      rw [← Bool.not_eq_true, partGood_iff]
      omega
    · exact replies_of_asks asks rfl (opReadEntry_badKey (Library.named_beyond sel _))

/-! ### Field-select writes -/

theorem badChoice_iff {mask bit off top : Nat} {body : List Byte} : badChoice mask body bit off top = true ↔
    mask.testBit bit = true ∧ top < byteAt body off := by
  simp [badChoice, bitSet]

theorem writeCode_eq (mask : Nat) (body : List Byte) (fs : List Numeric) : writeCode mask body fs =
    if ∃ f ∈ fs, mask.testBit f.bit = true ∧ ¬ (f.lo ≤ u32At body f.off ∧ u32At body f.off ≤ f.hi)
    then .clamped else .done := by
  have same : (fs.any (Numeric.clamps mask body)) = true ↔ ∃ f ∈ fs, mask.testBit f.bit = true ∧
      ¬ (f.lo ≤ u32At body f.off ∧ u32At body f.off ≤ f.hi) := by
    rw [List.any_eq_true]
    refine exists_congr fun f => and_congr_right fun _ => ?_
    rw [Numeric.clamps, bitSet, Bool.and_eq_true, Bool.not_eq_true', ← Bool.not_eq_true, within_iff]
  exact if_congr same rfl rfl

/-! ### SET_STATION -/

theorem setupChoiceBad_iff {mask : Nat} {body : List Byte} : setupChoiceBad mask body = true ↔
    (mask.testBit 0 = true ∧ 30 < byteAt body 5) ∨ (mask.testBit 1 = true ∧ 30 < byteAt body 6) ∨
    (mask.testBit 2 = true ∧ 30 < byteAt body 7) ∨ (mask.testBit 3 = true ∧ 1 < byteAt body 8) ∨
    (mask.testBit 4 = true ∧ 3 < byteAt body 9) ∨ (mask.testBit 13 = true ∧ 1 < byteAt body 42) := by
  simp only [setupChoiceBad, Bool.or_eq_true, badChoice_iff, or_assoc]

/-- A setup written, field by field. -/
theorem Setup.write_eq (top mask : Nat) (body : List Byte) (old : Setup) :
    let new (bit n o : Nat) := if mask.testBit bit then n else o
    old.write top mask body =
      { driveHead := new 0 (byteAt body 5) old.driveHead
        processHead := new 1 (byteAt body 6) old.processHead
        vibrationHead := new 2 (byteAt body 7) old.vibrationHead
        channel := if mask.testBit 3 then (if byteAt body 8 = 0 then .a else .b) else old.channel
        angleTable := new 4 (byteAt body 9) old.angleTable
        maxSpeed := new 5 (min (min 1000000 top) (u32At body 10)) old.maxSpeed
        tripSpeed := new 6 (min 1000000 (u32At body 14)) old.tripSpeed
        tripTorque := new 7 (min 2000000 (u32At body 18)) old.tripTorque
        maxTorque := new 8 (min 2000000 (u32At body 22)) old.maxTorque
        feedbackTimeout := new 9 (max 2 (min 50 (u32At body 26))) old.feedbackTimeout
        stopRate := new 10 (max 1 (min 100000 (u32At body 30))) old.stopRate
        stopTimeout := new 11 (max 1 (min 10000000 (u32At body 34))) old.stopTimeout
        zeroBand := new 12 (min 100000 (u32At body 38)) old.zeroBand
        rejectMode := if mask.testBit 13
          then (if byteAt body 42 = 0 then .pulse else .catch) else old.rejectMode
        width := new 14 (max 1 (min 250 (u32At body 43))) old.width
        recovery := new 15 (min 250 (u32At body 47)) old.recovery } := by
  simp only [Setup.write, choose, Numeric.write, bitSet, channelOf, rejectModeOf, fMaxSpeed, fTripSpeed,
    fTripTorque, fMaxTorque, fFeedback, fStopRate, fStopTimeout, fZeroBand, fWidth, fRecovery, clampField, Nat.zero_max]
  rfl

theorem opSetStation_good {r : Request} {z : State} {i : StNo} (named : byteAt r.body 0 = i.val)
    (mask : u32At r.body 1 < 65536) (choice : setupChoiceBad (u32At r.body 1) r.body = false)
    (free : u32At r.body 1 % 8192 = 0 ∨ (z.stations.get i).sc.state = .idle) : opSetStation r z =
      ⟨z.writeSetup i (u32At r.body 1) r.body,
        writeCode (u32At r.body 1) r.body (setupNumerics z.cell.absMaxSpeed), .none, [0]⟩ := by
  rw [opSetStation, onNamed_of_station named]
  dsimp only
  rw [if_neg (by omega), if_neg (by simp [choice]), if_neg (by tauto)]
  rfl

theorem opSetStation_busy {r : Request} {z : State} {i : StNo} (named : byteAt r.body 0 = i.val)
    (mask : u32At r.body 1 < 65536) (choice : setupChoiceBad (u32At r.body 1) r.body = false)
    (bound : u32At r.body 1 % 8192 ≠ 0) (busy : (z.stations.get i).sc.state ≠ .idle) :
    opSetStation r z = ⟨z, .stationBusy, .none, [0]⟩ := by
  rw [opSetStation, onNamed_of_station named]
  dsimp only
  rw [if_neg (by omega), if_neg (by simp [choice]), if_pos ⟨bound, busy⟩]
  rfl

theorem opSetStation_badField {r : Request} (bad : 4 ≤ byteAt r.body 0 ∨ 65536 ≤ u32At r.body 1 ∨
    setupChoiceBad (u32At r.body 1) r.body = true) (z : State) :
    opSetStation r z = ⟨z, .badField, .none, [0]⟩ := by
  obtain inside | outside := Nat.lt_or_ge (byteAt r.body 0) 4
  · obtain ⟨i, named⟩ := byteAt_station inside
    rw [opSetStation, onNamed_of_station named]
    dsimp only
    split
    · rfl
    next mask =>
      rw [if_pos ((bad.resolve_left (by omega)).resolve_left mask)]
      rfl
  · rw [opSetStation, onNamed_outside outside]
    rfl

theorem State.writeSetup_setup (z : State) (i : StNo) (mask : Nat) (body : List Byte) :
    (z.writeSetup i mask body).setups.get i = (z.setups.get i).write z.cell.absMaxSpeed mask body := by
  simp only [State.writeSetup, Quad.get_set]

theorem State.writeSetup_eq (z : State) (i : StNo) (mask : Nat) (body : List Byte) :
    z.writeSetup i mask body = { z with
      setups := z.setups.set i ((z.writeSetup i mask body).setups.get i)
      stations := z.stations.set i { z.stations.get i with
        aw := if mask.testBit 2 then { (z.stations.get i).aw with lastAngle := none }
          else (z.stations.get i).aw
        ou := if ((z.writeSetup i mask body).setups.get i).rejectMode = (z.setups.get i).rejectMode
          then (z.stations.get i).ou
          else { (z.stations.get i).ou with
            reject := .ready, pulseTimer := 0, recoveryTimer := 0, pending := 0 } } } := by
  rw [State.writeSetup_setup]
  unfold State.writeSetup
  simp only [Station.resetup, Output.modeChange, bitSet, eq_comm]

/-- Settles O24: the setup written field by field, and the refusals. -/
theorem setupIsWritten : Obligations.SetupIsWritten := by
  refine ⟨fun mask body => setupChoiceBad_iff, fun top => rfl, fun s r i asks named mask choice =>
    ⟨fun free => ⟨s.settle.writeSetup i (u32At r.body 1) r.body, _,
      replies_of_asks asks rfl (opSetStation_good named mask choice free), writeCode_eq _ _ _, ?_, ?_⟩,
      fun bound busy => replies_of_asks asks rfl (opSetStation_busy named mask choice bound busy)⟩,
    fun s r asks bad => replies_of_asks asks rfl (opSetStation_badField bad _)⟩
  · rw [State.writeSetup_setup]
    exact Setup.write_eq _ _ _ _
  · exact State.writeSetup_eq _ _ _ _

/-! ### SET_CELL and READ_CELL -/

theorem mark_four_iff {n : Nat} (h : n < 32) : n.testBit 4 = true ↔ 16 ≤ n := by
  rw [Nat.testBit_eq_decide_div_mod_eq, decide_eq_true_eq]
  omega

theorem opSetCell_good {r : Request} {z : State} (mask : byteAt r.body 0 < 32)
    (choice : badChoice (byteAt r.body 0) r.body 1 5 30 = false)
    (free : byteAt r.body 0 < 16 ∨ ∀ i, (z.stations.get i).sc.state = .idle) : opSetCell r z =
      ⟨{ z with cell := z.cell.write (byteAt r.body 0) r.body },
        writeCode (byteAt r.body 0) r.body cellNumerics, .none, [0]⟩ := by
  have quiet : ¬ (bitSet (byteAt r.body 0) 4 = true ∧ z.allIdle = false) := by
    rintro ⟨mark, busy⟩
    rw [bitSet, mark_four_iff mask] at mark
    rw [← Bool.not_eq_true, State.allIdle_iff] at busy
    exact busy (free.resolve_left (by omega))
  rw [opSetCell, if_neg (by omega), if_neg (by simp [choice]), if_neg quiet]
  rfl

theorem opSetCell_busy {r : Request} {z : State} (mark : 16 ≤ byteAt r.body 0) (mask : byteAt r.body 0 < 32)
    (choice : badChoice (byteAt r.body 0) r.body 1 5 30 = false)
    (busy : ∃ i, (z.stations.get i).sc.state ≠ .idle) : opSetCell r z = ⟨z, .stationBusy, .none, [0]⟩ := by
  have used : z.allIdle = false := by
    rw [← Bool.not_eq_true, State.allIdle_iff]
    exact not_forall.2 busy
  rw [opSetCell, if_neg (by omega), if_neg (by simp [choice]), if_pos ⟨(mark_four_iff mask).2 mark, used⟩]
  rfl

theorem opSetCell_badField {r : Request}
    (bad : 32 ≤ byteAt r.body 0 ∨ badChoice (byteAt r.body 0) r.body 1 5 30 = true) (z : State) :
    opSetCell r z = ⟨z, .badField, .none, [0]⟩ := by
  rw [opSetCell]
  split
  · rfl
  next mask =>
    rw [if_pos (bad.resolve_left mask)]
    rfl

theorem CellSettings.write_eq (c : CellSettings) (mask : Nat) (body : List Byte) :
    let u := c.write mask body
    u.ambient = (if mask.testBit 0 then max 50000 (min 110000 (u32At body 1)) else c.ambient) ∧
    u.supplyHead = (if mask.testBit 1 then byteAt body 5 else c.supplyHead) ∧
    u.supplyThreshold = (if mask.testBit 2 then min 1000000 (u32At body 6) else c.supplyThreshold) ∧
    u.supplyWait = (if mask.testBit 3 then max 1 (min 600000 (u32At body 10)) else c.supplyWait) ∧
    u.absMaxSpeed = (if mask.testBit 4 then min 1000000 (u32At body 14) else c.absMaxSpeed) := by
  simp [CellSettings.write, choose, Numeric.write, bitSet, fAmbient, fThreshold, fSupplyWait, fAbsMax,
    clampField]
  exact ⟨rfl, rfl⟩

theorem opReadCell_eq (r : Request) (z : State) : opReadCell r z = ⟨z, .done, .cell,
    putU32 z.cell.ambient ++ putU8 z.cell.supplyHead ++ putU32 z.cell.supplyThreshold ++
      putU32 z.cell.supplyWait ++ putU32 z.cell.absMaxSpeed⟩ := rfl

theorem opReadStation_named {r : Request} {i : StNo} (named : byteAt r.body 0 = i.val) (z : State) :
    opReadStation r z = ⟨z, .done, .station, putU8 i.val ++ (z.setups.get i).bytes⟩ := by
  rw [opReadStation, onNamed_of_station named]
  rfl

theorem opReadStation_badField {r : Request} (outside : 4 ≤ byteAt r.body 0) (z : State) :
    opReadStation r z = ⟨z, .badField, .none, [0]⟩ := by
  rw [opReadStation, onNamed_outside outside]
  rfl

theorem Setup.bytes_length (i : StNo) (u : Setup) : (putU8 i.val ++ u.bytes).length = 47 := by
  simp [Setup.bytes]

/-- Settles O25: the cell settings written field by field, the refusals, and the two reads. -/
theorem cellIsWrittenAndSettingsAreRead : Obligations.CellIsWrittenAndSettingsAreRead := by
  refine ⟨fun u => ?_, fun mask body => badChoice_iff, rfl, fun s r => ⟨fun asks mask choice free =>
    ⟨_, _, replies_of_asks asks rfl (opSetCell_good mask choice free), writeCode_eq _ _ _,
      CellSettings.write_eq _ _ _⟩,
    fun asks mark mask choice busy => replies_of_asks asks rfl (opSetCell_busy mark mask choice busy),
    fun asks => replies_of_asks asks rfl (opReadCell_eq r _),
    fun i asks named => ⟨replies_of_asks asks rfl (opReadStation_named named _), Setup.bytes_length i _⟩,
    fun asks outside => replies_of_asks asks rfl (opReadStation_badField outside _),
    fun asks bad => replies_of_asks asks rfl (opSetCell_badField bad _)⟩⟩
  unfold Setup.bytes
  cases u.channel <;> cases u.rejectMode <;> rfl

end Sys2Proof.Machine
end

section
/-! SUPPORT. What the shared operations of a station do, an equation each; and the end of a test by a stop or
a reset. -/

namespace Sys2Proof.Machine

/-! ### Equations -/

/-- The drive once enable and torque limit have followed the state (R88). -/
def Bench.followed (b : Bench) : Drive := b.follow.st.dc

theorem Bench.follow_eq (b : Bench) : b.follow = b.setDc b.followed := by
  obtain ⟨d, same, -⟩ := b.follow_spec
  rw [Bench.followed, same]
  rfl

theorem Bench.followed_driving {b : Bench} (h : b.st.sc.state.driving = true) : b.followed =
    { b.st.dc with
      enable := true, torqueLimit := driveLimit b.st.dc.torqueCheck b.setup.maxTorque } := by
  unfold Bench.followed Bench.follow
  split
  next idle => rw [idle] at h; cases h
  next stopping _ => rw [stopping] at h; cases h
  next stopping _ => rw [stopping] at h; cases h
  · rfl

theorem Bench.followed_controlled {b : Bench} (stopping : b.st.sc.state = .stopping)
    (kind : b.st.sc.stopKind = some .controlled) : b.followed =
    { b.st.dc with enable := true, torqueLimit := b.setup.maxTorque } := by
  unfold Bench.followed Bench.follow
  rw [stopping, kind]
  rfl

/-- Following the state touches enable and torque limit alone. -/
theorem Bench.followed_keeps (b : Bench) : b.followed = { b.st.dc with
    enable := b.followed.enable, torqueLimit := b.followed.torqueLimit } := by
  unfold Bench.followed Bench.follow
  split <;> rfl

/-- The tables once the station listens no more. -/
def Bench.libUnheard (b : Bench) : Library :=
  match b.st.point with
  | some p => b.lib.dropListen p.limitSet b.setup.angleTable
  | none => b.lib

/-- The angle unit once the station listens no more. -/
def Bench.awUnheard (b : Bench) : AngleUnit :=
  match b.st.point with
  | some _ => b.st.aw.endListen
  | none => b.st.aw

theorem Bench.endListen_eq (b : Bench) :
    b.endListen = ((b.setLib b.libUnheard).setAw b.awUnheard).setPoint none := by
  unfold Bench.endListen Bench.libUnheard Bench.awUnheard
  cases h : b.st.point with
  | some p => rfl
  | none =>
    show b = b.setPoint none
    rw [← h]
    rfl

theorem Bench.finishSegment_eq (b : Bench) (g : Segment) (o : SegOutcome) : b.finishSegment g o =
    ((((b.setStore (b.store.onOpen b.st.sc.recordId (Record.addSegment (b.segResult g o)))).setLib
      b.libUnheard).setAw b.awUnheard).setPoint none).setSc { b.st.sc with segment := none } := by
  unfold Bench.finishSegment
  rw [Bench.endListen_eq]
  rfl

/-- What a defect of the leak activity writes into the record of the station. -/
def Bench.leakDefectEntry (owner : Nat) (c : Option DefectCode) (b : Bench) : Record → Record :=
  match c with
  | some c => if owner = b.st.sc.recordId then Record.addDefect c b.st.sc.executed else id
  | none => id

theorem Bench.setStore_self (b : Bench) (id : Nat) : b = b.setStore (b.store.onOpen id fun r => r) := by
  rw [Store.onOpen_self]
  rfl

theorem Bench.leakDefect_eq (b : Bench) (owner : Nat) (c : Option DefectCode) : b.leakDefect owner c =
    b.setStore (b.store.onOpen b.st.sc.recordId (b.leakDefectEntry owner c)) := by
  unfold Bench.leakDefect Bench.leakDefectEntry
  cases c with
  | none => exact b.setStore_self _
  | some c =>
    dsimp only
    split
    next own => rw [own]
    · exact b.setStore_self _

/-- What a leak result writes into the record of the station. -/
def Bench.leakResultEntry (owner : Nat) (x : LeakResult) (b : Bench) : Record → Record :=
  if owner = b.st.sc.recordId then Record.placeLeak x else id

theorem Bench.placeLeak_eq (b : Bench) (owner : Nat) (x : LeakResult) : b.placeLeak owner x =
    b.setStore (b.store.onOpen b.st.sc.recordId (b.leakResultEntry owner x)) := by
  unfold Bench.placeLeak Bench.leakResultEntry
  split
  next own => rw [own]
  · exact b.setStore_self _

theorem Bench.leakDefectEntry_keepsIdentity (b : Bench) (owner : Nat) (c : Option DefectCode) :
    KeepsIdentity (b.leakDefectEntry owner c) := by
  unfold Bench.leakDefectEntry
  cases c with
  | none => exact keepsIdentity_id
  | some c =>
    dsimp only
    split
    · exact addDefect_keepsIdentity _ _
    · exact keepsIdentity_id

/-- The result of an activity before VENT fixed: its record entries, and the activity in VENT (R145). -/
theorem Bench.fixLeak_of_before {b : Bench} {a : Activity} (active : b.st.lu = some a)
    (before : a.phase.beforeVent = true) (o : LeakOutcome) (r : Option LeakReason) (c : Option DefectCode) :
    b.fixLeak o r c = (b.setLu (some (a.fix o r))).setStore (b.store.onOpen b.st.sc.recordId
      (b.leakResultEntry a.owner ((a.fix o r).leakResult o) ∘ b.leakDefectEntry a.owner c)) := by
  unfold Bench.fixLeak
  rw [active]
  dsimp only
  rw [if_pos before, Bench.placeLeak_eq, Bench.leakDefect_eq]
  exact congrArg (b.setLu (some (a.fix o r))).setStore
    (Store.onOpen_onOpen _ _ (b.leakDefectEntry_keepsIdentity a.owner c))

theorem LeakPhase.beforeVent_iff {p : LeakPhase} : p.beforeVent = true ↔ ¬ (p = .vent ∨ p = .done) := by
  cases p <;> simp [LeakPhase.beforeVent]

/-! ### Entries read back -/

theorem Store.onOpen_at_self {t : Store} {k : Nat} {q : Record} (here : t.At k q) (isOpen : q.closed = false)
    (f : Record → Record) : (t.onOpen q.id f).At k (f q) :=
  mapOpen_at.2 ⟨q, here, by rw [if_pos ⟨rfl, isOpen⟩]⟩

theorem Store.onOpen_at_other {t : Store} {k id : Nat} {q : Record} (here : t.At k q)
    (other : ¬ (q.id = id ∧ q.closed = false)) (f : Record → Record) : (t.onOpen id f).At k q :=
  mapOpen_at.2 ⟨q, here, by rw [if_neg other]⟩

theorem Record.addSegment_room {x : SegResult} {q : Record} (room : q.segs.length < 64) :
    (q.addSegment x).segs = q.segs ++ [x] := by
  rw [Record.addSegment, if_pos (show _ < Config.maxSegResults from room)]

theorem Record.addSegment_full {x : SegResult} {q : Record} (full : 64 ≤ q.segs.length) :
    (q.addSegment x).segs = q.segs ∧ (q.addSegment x).segsTruncated = true := by
  rw [Record.addSegment, if_neg (show ¬ _ < Config.maxSegResults from Nat.not_lt.2 full)]
  exact ⟨rfl, rfl⟩

theorem Record.addSegment_leak (x : SegResult) (q : Record) : (q.addSegment x).leak = q.leak := by
  unfold Record.addSegment
  split <;> rfl

/-! ### The end of a test -/

/-- The activity of a station that enters STOPPING or is reset. -/
def Activity.aborted (a : Activity) : Activity :=
  if a.phase.beforeVent = true then a.fix .aborted none else a

theorem Activity.aborted_eq (a : Activity) : a.aborted = if a.phase = .vent ∨ a.phase = .done then a
    else { a with
      phase := .vent, timer := 0, mark := if a.mark = .started then .started else .entered
      result := some .aborted, reason := none, block := none
      fillTime := if a.phase = .fill ∧ a.fillTime = none then some a.timer else a.fillTime } := by
  unfold Activity.aborted
  split
  next before =>
    rw [if_neg (LeakPhase.beforeVent_iff.1 before)]
    rfl
  next fixed => rw [if_pos (by rwa [LeakPhase.beforeVent_iff, not_not] at fixed)]

/-- What the abort of a leak activity writes into the record of the station. -/
def Bench.abortEntry (b : Bench) : Record → Record :=
  match b.st.lu with
  | some a => if a.phase.beforeVent = true
      then b.leakResultEntry a.owner ((a.fix .aborted none).leakResult .aborted) else id
  | none => id

theorem Bench.fixLeak_of_none {b : Bench} (none : b.st.lu = none) (o : LeakOutcome) (r : Option LeakReason)
    (c : Option DefectCode) : b.fixLeak o r c = b := by
  unfold Bench.fixLeak
  rw [none]

theorem Bench.abortLeak_eq (b : Bench) : b.abortLeak =
    (b.setLu (b.st.lu.map Activity.aborted)).setStore (b.store.onOpen b.st.sc.recordId b.abortEntry) := by
  unfold Bench.abortLeak Bench.abortEntry
  cases active : b.st.lu with
  | none =>
    rw [Bench.fixLeak_of_none active]
    show b = (b.setLu none).setStore (b.store.onOpen b.st.sc.recordId fun r => r)
    rw [Store.onOpen_self, ← active]
    rfl
  | some a =>
    dsimp only [Option.map_some]
    unfold Activity.aborted
    split
    next before => rw [Bench.fixLeak_of_before active before]; rfl
    next fixed =>
      rw [Bench.fixLeak_of_fixed _ _ _ active (Bool.eq_false_iff.2 fixed)]
      show b = (b.setLu (some a)).setStore (b.store.onOpen b.st.sc.recordId fun r => r)
      rw [Store.onOpen_self, ← active]
      rfl

/-- What the end of a test writes into the record of the station about its segment. -/
def Bench.abandonEntry (b : Bench) : Record → Record :=
  match b.st.sc.segment with
  | some g => Record.addSegment (b.segResult g .abandoned)
  | none => id

theorem Bench.abandonEntry_keepsIdentity (b : Bench) : KeepsIdentity b.abandonEntry := by
  unfold Bench.abandonEntry
  split
  · exact addSegment_keepsIdentity _
  · exact keepsIdentity_id

theorem Bench.abandonSegment_of_none {b : Bench} (none : b.st.sc.segment = none) : b.abandonSegment = b := by
  rw [Bench.abandonSegment, none]

theorem Bench.abandonSegment_of_some {b : Bench} {g : Segment} (some : b.st.sc.segment = some g) :
    b.abandonSegment = b.finishSegment g .abandoned := by
  rw [Bench.abandonSegment, some]

theorem Bench.abandonSegment_store (b : Bench) :
    b.abandonSegment.store = b.store.onOpen b.st.sc.recordId b.abandonEntry := by
  cases seg : b.st.sc.segment with
  | none =>
    rw [Bench.abandonSegment_of_none seg, Bench.abandonEntry, seg]
    exact (Store.onOpen_self _ _).symm
  | some g =>
    rw [Bench.abandonSegment_of_some seg, Bench.finishSegment_eq, Bench.abandonEntry, seg]
    rfl

/-- What the end of a segment leaves of the rest of the station. -/
theorem Bench.finishSegment_rest (b : Bench) (g : Segment) (o : SegOutcome) :
    (b.finishSegment g o).st.lu = b.st.lu ∧ (b.finishSegment g o).st.ou = b.st.ou ∧
    (b.finishSegment g o).st.mode = b.st.mode ∧ (b.finishSegment g o).st.dc = b.st.dc ∧
    (b.finishSegment g o).st.ready = b.st.ready ∧ (b.finishSegment g o).st.todo = b.st.todo ∧
    (b.finishSegment g o).flags = b.flags ∧ (b.finishSegment g o).lineStop = b.lineStop := by
  rw [Bench.finishSegment_eq]
  exact ⟨rfl, rfl, rfl, rfl, rfl, rfl, rfl, rfl⟩

theorem Bench.abandonSegment_rest (b : Bench) : b.abandonSegment.st.lu = b.st.lu ∧
    b.abandonSegment.st.ou = b.st.ou ∧ b.abandonSegment.st.mode = b.st.mode ∧
    b.abandonSegment.st.dc = b.st.dc ∧ b.abandonSegment.st.ready = b.st.ready ∧
    b.abandonSegment.st.todo = b.st.todo ∧ b.abandonSegment.flags = b.flags ∧
    b.abandonSegment.lineStop = b.lineStop := by
  cases seg : b.st.sc.segment with
  | none =>
    rw [Bench.abandonSegment_of_none seg]
    exact ⟨rfl, rfl, rfl, rfl, rfl, rfl, rfl, rfl⟩
  | some g =>
    rw [Bench.abandonSegment_of_some seg]
    exact b.finishSegment_rest g .abandoned

theorem Bench.abandonSegment_listen (b : Bench) :
    (∀ g, b.st.sc.segment = some g → b.abandonSegment.st.point = none ∧ b.abandonSegment.st.aw = b.awUnheard) ∧
    (b.st.sc.segment = none → b.abandonSegment.st.point = b.st.point ∧ b.abandonSegment.st.aw = b.st.aw) := by
  refine ⟨fun g seg => ?_, fun seg => ?_⟩
  · rw [Bench.abandonSegment_of_some seg, Bench.finishSegment_eq]
    exact ⟨rfl, rfl⟩
  · rw [Bench.abandonSegment_of_none seg]
    exact ⟨rfl, rfl⟩

theorem Bench.abortEntry_congr {b c : Bench} (lu : c.st.lu = b.st.lu)
    (id : c.st.sc.recordId = b.st.sc.recordId) : c.abortEntry = b.abortEntry := by
  unfold Bench.abortEntry Bench.leakResultEntry
  rw [lu, id]

theorem Bench.testOver_store (b : Bench) : b.testOver.store =
    b.store.onOpen b.st.sc.recordId (b.abortEntry ∘ b.abandonEntry) := by
  have lu : b.abandonSegment.clearChain.st.lu = b.st.lu := b.abandonSegment_rest.1
  have id : b.abandonSegment.clearChain.st.sc.recordId = b.st.sc.recordId := by
    show b.abandonSegment.st.sc.recordId = b.st.sc.recordId
    rw [Bench.abandonSegment_sc]
  rw [Bench.testOver, Bench.abortLeak_eq, Bench.abortEntry_congr lu id, id,
    ← Store.onOpen_onOpen _ _ b.abandonEntry_keepsIdentity, ← Bench.abandonSegment_store]
  rfl

theorem Bench.testOver_lu (b : Bench) : b.testOver.st.lu = b.st.lu.map Activity.aborted := by
  rw [Bench.testOver, Bench.abortLeak_eq]
  exact congrArg (Option.map Activity.aborted) b.abandonSegment_rest.1

theorem Bench.testOver_listen (b : Bench) :
    (∀ g, b.st.sc.segment = some g → b.testOver.st.point = none ∧ b.testOver.st.aw = b.awUnheard) ∧
    (b.st.sc.segment = none → b.testOver.st.point = b.st.point ∧ b.testOver.st.aw = b.st.aw) := by
  rw [Bench.testOver, Bench.abortLeak_eq]
  exact b.abandonSegment_listen

theorem Bench.testOver_rest (b : Bench) : b.testOver.st.ou = b.st.ou ∧ b.testOver.st.mode = b.st.mode ∧
    b.testOver.st.dc = b.st.dc ∧ b.testOver.st.ready = b.st.ready ∧ b.testOver.st.todo = b.st.todo ∧
    b.testOver.flags = b.flags ∧ b.testOver.lineStop = b.lineStop := by
  rw [Bench.testOver, Bench.abortLeak_eq]
  exact b.abandonSegment_rest.2

/-! ### `Bench.TestEnded` -/

/-- The records of an id keep their segment results and their leak result, slot by slot. -/
def Store.KeepsResults (id : Nat) (t u : Store) : Prop :=
  ∀ k q, t.At k q → q.id = id → ∃ q', u.At k q' ∧ q'.id = id ∧ q'.segs = q.segs ∧
    q'.segsTruncated = q.segsTruncated ∧ q'.leak = q.leak

theorem Store.KeepsResults.refl (id : Nat) (t : Store) : Store.KeepsResults id t t :=
  fun _ q here own => ⟨q, here, own, rfl, rfl, rfl⟩

theorem Store.KeepsResults.trans {id : Nat} {t u v : Store} (h : Store.KeepsResults id t u)
    (h' : Store.KeepsResults id u v) : Store.KeepsResults id t v := by
  intro k q here own
  obtain ⟨q', there, own', segs, truncated, leak⟩ := h k q here own
  obtain ⟨q'', there', own'', segs', truncated', leak'⟩ := h' k q' there own'
  exact ⟨q'', there', own'', segs'.trans segs, truncated'.trans truncated, leak'.trans leak⟩

/-- An entry other than a segment result or a leak result. -/
theorem Store.KeepsResults.entry {id id' : Nat} (t : Store) {f : Record → Record}
    (same : ∀ q, (f q).id = q.id ∧ (f q).segs = q.segs ∧ (f q).segsTruncated = q.segsTruncated ∧
      (f q).leak = q.leak) : Store.KeepsResults id t (t.onOpen id' f) := by
  intro k q here own
  refine ⟨_, mapOpen_at.2 ⟨q, here, rfl⟩, ?_⟩
  split
  · obtain ⟨i, s, r, l⟩ := same q
    exact ⟨i.trans own, s, r, l⟩
  · exact ⟨own, rfl, rfl, rfl⟩

/-- Entries into the record of another id. -/
theorem Store.KeepsResults.other {id id' : Nat} {t u : Store} (ne : id ≠ id')
    (written : Store.Written id' t u) : Store.KeepsResults id t u := by
  obtain ⟨f, -, rfl⟩ := written
  intro k q here own
  exact ⟨q, Store.onOpen_at_other here (fun h => ne (own.symm.trans h.1)) f, own, rfl, rfl, rfl⟩

theorem Record.addDefect_results (c : DefectCode) (n : Nat) (q : Record) :
    (q.addDefect c n).id = q.id ∧ (q.addDefect c n).segs = q.segs ∧
      (q.addDefect c n).segsTruncated = q.segsTruncated ∧ (q.addDefect c n).leak = q.leak := by
  unfold Record.addDefect
  repeat' split
  all_goals exact ⟨rfl, rfl, rfl, rfl⟩

theorem Bench.abortEntry_leak (b : Bench) (q : Record) :
    (b.abortEntry q).segs = q.segs ∧ (b.abortEntry q).segsTruncated = q.segsTruncated ∧
    (b.st.lu = none → (b.abortEntry q).leak = q.leak) ∧
    ∀ a, b.st.lu = some a →
      (a.phase = .vent ∨ a.phase = .done ∨ a.owner ≠ b.st.sc.recordId → (b.abortEntry q).leak = q.leak) ∧
      (a.phase ≠ .vent → a.phase ≠ .done → a.owner = b.st.sc.recordId → (b.abortEntry q).leak = some
        ⟨.aborted, none, if a.phase = .fill ∧ a.fillTime = none then some a.timer else a.fillTime,
          a.bStart.map Prod.fst, a.computed⟩) := by
  unfold Bench.abortEntry
  cases active : b.st.lu with
  | none => exact ⟨rfl, rfl, fun _ => rfl, fun a h => (nomatch h)⟩
  | some a =>
    dsimp only
    unfold Bench.leakResultEntry
    split
    next before =>
      rw [LeakPhase.beforeVent_iff, not_or] at before
      split
      next own =>
        refine ⟨rfl, rfl, fun h => (nomatch h), fun x same => ?_⟩
        obtain rfl := Option.some.inj same
        exact ⟨fun h => by tauto, fun _ _ _ => rfl⟩
      next other =>
        refine ⟨rfl, rfl, fun h => (nomatch h), fun x same => ?_⟩
        obtain rfl := Option.some.inj same
        exact ⟨fun _ => rfl, fun _ _ own => absurd own other⟩
    next fixed =>
      rw [LeakPhase.beforeVent_iff, not_not] at fixed
      refine ⟨rfl, rfl, fun h => (nomatch h), fun x same => ?_⟩
      obtain rfl := Option.some.inj same
      exact ⟨fun _ => rfl, fun vent done _ => absurd fixed (not_or.2 ⟨vent, done⟩)⟩

theorem Bench.abortEntry_keepsIdentity (b : Bench) : KeepsIdentity b.abortEntry := by
  unfold Bench.abortEntry Bench.leakResultEntry
  repeat' split
  all_goals exact fun _ => ⟨rfl, rfl, rfl⟩

theorem Bench.abandonEntry_spec (b : Bench) (q : Record) :
    (b.st.sc.segment = none → (b.abandonEntry q).segs = q.segs) ∧ (b.abandonEntry q).leak = q.leak ∧
    ∀ g, b.st.sc.segment = some g →
      (q.segs.length < 64 → (b.abandonEntry q).segs = q.segs ++ [b.segResult g .abandoned]) ∧
      (64 ≤ q.segs.length → (b.abandonEntry q).segs = q.segs ∧ (b.abandonEntry q).segsTruncated = true) := by
  unfold Bench.abandonEntry
  cases seg : b.st.sc.segment with
  | none => exact ⟨fun _ => rfl, rfl, fun g h => (nomatch h)⟩
  | some g =>
    refine ⟨fun h => (nomatch h), q.addSegment_leak _, fun x same => ?_⟩
    obtain rfl := Option.some.inj same
    exact ⟨Record.addSegment_room, Record.addSegment_full⟩

/-- What a stop or a reset leaves of the test of `b`, told by what becomes of segment, listening, leak activity
and records. -/
theorem Bench.testEnded_of {b c : Bench} (segment : c.st.sc.segment = none)
    (listen : ∀ g, b.st.sc.segment = some g → c.st.point = none ∧ c.st.aw = b.awUnheard)
    (lu : c.st.lu = b.st.lu.map Activity.aborted)
    (store : ∀ k q, b.store.At k q → q.id = b.st.sc.recordId → q.closed = false → ∃ q', c.store.At k q' ∧
      q'.segs = (b.abortEntry (b.abandonEntry q)).segs ∧
      q'.segsTruncated = (b.abortEntry (b.abandonEntry q)).segsTruncated ∧
      q'.leak = (b.abortEntry (b.abandonEntry q)).leak) : b.TestEnded c := by
  refine ⟨fun g seg => ?_, fun idle => ?_, fun a active => ?_, fun k q here own isOpen => ?_⟩
  · obtain ⟨point, aw⟩ := listen g seg
    refine ⟨segment, point, fun listens => ?_⟩
    obtain ⟨p, listens⟩ := Option.ne_none_iff_exists'.1 listens
    rw [aw, Bench.awUnheard, listens]
    exact ⟨rfl, rfl, rfl, fun collecting => if_pos collecting⟩
  · rw [lu, idle]
    rfl
  · rw [lu, active, Option.map_some, Activity.aborted_eq]
  · obtain ⟨q', there, segs', truncated', leak'⟩ := store k q here own isOpen
    obtain ⟨segs, truncated, noLeak, leak⟩ := b.abortEntry_leak (b.abandonEntry q)
    obtain ⟨noSeg, sameLeak, seg⟩ := b.abandonEntry_spec q
    rw [segs] at segs'
    rw [truncated] at truncated'
    refine ⟨q', there, fun h => segs'.trans (noSeg h), fun g h => ?_,
      fun h => leak'.trans ((noLeak h).trans sameLeak), fun a h => ?_⟩
    · obtain ⟨room, full⟩ := seg g h
      exact ⟨fun h => segs'.trans (room h), fun h => ⟨segs'.trans (full h).1, truncated'.trans (full h).2⟩⟩
    · obtain ⟨keeps, placed⟩ := leak a h
      exact ⟨fun h => leak'.trans ((keeps h).trans sameLeak), fun v d own => leak'.trans (placed v d own)⟩

/-- What happens to a station once its test is over leaves the test ended: no entry of segment or leak
results. -/
theorem Bench.testEnded_of_testOver {b c : Bench} (segment : c.st.sc.segment = none)
    (point : c.st.point = b.testOver.st.point) (aw : c.st.aw = b.testOver.st.aw)
    (lu : c.st.lu = b.testOver.st.lu) (store : b.testOver.store.KeepsResults b.st.sc.recordId c.store) :
    b.TestEnded c := by
  refine Bench.testEnded_of segment (fun g seg => ?_) (lu.trans b.testOver_lu) fun k q here own isOpen => ?_
  · rw [point, aw]
    exact b.testOver_listen.1 g seg
  · have kept := (b.abortEntry_keepsIdentity.comp b.abandonEntry_keepsIdentity q).1
    have there := b.testOver_store ▸ own ▸ Store.onOpen_at_self here isOpen (b.abortEntry ∘ b.abandonEntry)
    obtain ⟨q', there', -, segs, truncated, leak⟩ := store k _ there (kept.trans own)
    exact ⟨q', there', segs, truncated, leak⟩

/-! ### The entry into STOPPING -/

/-- The station once its test is over, in STOPPING. -/
theorem Bench.halted_rest (b : Bench) (reason : StopReason) :
    (b.halted reason).st.point = b.testOver.st.point ∧ (b.halted reason).st.aw = b.testOver.st.aw ∧
    (b.halted reason).st.lu = b.testOver.st.lu ∧ (b.halted reason).store = b.testOver.store ∧
    (b.halted reason).lib = b.testOver.lib ∧ (b.halted reason).st.ou = b.st.ou ∧
    (b.halted reason).st.mode = b.st.mode ∧ (b.halted reason).st.ready = b.st.ready ∧
    (b.halted reason).st.todo = b.st.todo ∧ (b.halted reason).flags = b.flags ∧
    (b.halted reason).lineStop = b.lineStop := by
  obtain ⟨ou, mode, -, ready, todo, flags, lineStop⟩ := b.testOver_rest
  rw [Bench.halted, Bench.follow_eq]
  exact ⟨rfl, rfl, rfl, rfl, rfl, ou, mode, ready, todo, flags, lineStop⟩

/-- The drive of a station that enters STOPPING (R84, R98). -/
theorem Bench.halted_dc (b : Bench) (reason : StopReason) : (b.halted reason).st.dc =
    { b.st.dc.stop b.setup with enable := true, torqueLimit := b.setup.maxTorque } := by
  have dc := b.testOver_rest.2.2.1
  have setup : b.testOver.setup = b.setup := by
    obtain ⟨-, -, -, -, setup, -⟩ := Bench.around_eq (b.leads_testOver.around)
    exact setup
  rw [Bench.halted, Bench.follow_eq, Bench.setDc_dc, Bench.followed_controlled rfl rfl, Bench.setDc_dc,
    Bench.setDc_setup, Bench.setSc_setup, Bench.setSc_dc, dc, setup]

theorem Bench.halted_ended (b : Bench) (reason : StopReason) : b.TestEnded (b.halted reason) := by
  obtain ⟨point, aw, lu, store, -⟩ := b.halted_rest reason
  refine Bench.testEnded_of_testOver ?_ point aw lu (store ▸ .refl _ _)
  rw [Bench.halted_sc]
  rfl

end Sys2Proof.Machine
end

section
/-! SUPPORT. ABORT, and what a forced write does to the users of an entry. -/

namespace Sys2Proof.Machine

/-! ### ABORT -/

theorem opAbort_busy {r : Request} {z : State} {i : StNo} (named : byteAt r.body 0 = i.val)
    (busy : (z.stations.get i).sc.state ≠ .idle) :
    opAbort r z = ⟨z.putBench i (z.bench i).abort, .done, .none, [0]⟩ := by
  rw [opAbort, onNamed_of_station named, if_neg busy]
  rfl

theorem Bench.abort_driving {b : Bench} (driving : b.st.sc.state.driving = true) :
    b.abort = b.halted .operator := by
  have going : b.st.sc.state ≠ .stopping := fun h => by rw [h] at driving; cases driving
  rw [Bench.abort, if_neg going, Bench.enterStopping_of_driving .controlled .operator driving]

theorem opAbort_driving {r : Request} {z : State} {i : StNo} (named : byteAt r.body 0 = i.val)
    (driving : (z.stations.get i).sc.state.driving = true) :
    opAbort r z = ⟨z.putBench i ((z.bench i).halted .operator), .done, .none, [0]⟩ := by
  have busy : (z.stations.get i).sc.state ≠ .idle := fun h => by rw [h] at driving; cases driving
  rw [opAbort_busy named busy, Bench.abort_driving (b := z.bench i) driving]

theorem opAbort_stopping {r : Request} {z : State} {i : StNo} (named : byteAt r.body 0 = i.val)
    (stopping : (z.stations.get i).sc.state = .stopping) : opAbort r z = ⟨{ z with
      stations := z.stations.set i { z.stations.get i with
        sc := { (z.stations.get i).sc with stopKind := some .coast }
        dc := { (z.stations.get i).dc with enable := false, setpoint := 0, torqueLimit := 0 } } },
      .done, .none, [0]⟩ := by
  have busy : (z.stations.get i).sc.state ≠ .idle := by simp [stopping]
  have coasts : (z.bench i).abort = (z.bench i).coast := if_pos stopping
  rw [opAbort_busy named busy, coasts]
  rfl

theorem opAbort_idle {r : Request} {z : State} {i : StNo} (named : byteAt r.body 0 = i.val)
    (idle : (z.stations.get i).sc.state = .idle) : opAbort r z = ⟨z, .wrongState, .none, [0]⟩ := by
  rw [opAbort, onNamed_of_station named, if_pos idle]
  rfl

theorem opAbort_badField {r : Request} (outside : 4 ≤ byteAt r.body 0) (z : State) :
    opAbort r z = ⟨z, .badField, .none, [0]⟩ := by
  rw [opAbort, onNamed_outside outside]
  rfl

theorem StState.driving_iff {x : StState} : x.driving = true ↔ x = .running ∨ x = .held ∨ x = .finishing := by
  cases x <;> simp [StState.driving]

/-- A driving station stopped CONTROLLED. -/
theorem Bench.halted_spec (b : Bench) (reason : StopReason) :
    let c := b.halted reason
    c.st.sc.state = .stopping ∧ c.st.sc.stopKind = some .controlled ∧ c.st.sc.stopReason = some reason ∧
    c.st.sc.stopTimer = 0 ∧ c.st.sc.chain = [] ∧ c.st.sc.segment = none ∧
    c.st.dc.setpoint = b.st.dc.setpoint ∧ c.st.dc.enable = true ∧ c.st.mode = b.st.mode ∧
    c.st.ou = b.st.ou ∧ c.lineStop = b.lineStop ∧ b.TestEnded c := by
  obtain ⟨-, -, -, -, -, ou, mode, -, -, -, lineStop⟩ := b.halted_rest reason
  have ended := b.halted_ended reason
  dsimp only
  rw [Bench.halted_sc, Bench.halted_dc]
  exact ⟨rfl, rfl, rfl, rfl, rfl, rfl, rfl, rfl, mode, ou, lineStop, ended⟩

theorem opAbort_driving_spec {r : Request} {z : State} {i : StNo} (named : byteAt r.body 0 = i.val)
    (driving : (z.stations.get i).sc.state.driving = true) : ∃ b,
      opAbort r z = ⟨z.putBench i b, .done, .none, [0]⟩ ∧
      b.st.sc.state = .stopping ∧ b.st.sc.stopKind = some .controlled ∧
      b.st.sc.stopReason = some .operator ∧ b.st.sc.stopTimer = 0 ∧ b.st.sc.chain = [] ∧
      b.st.sc.segment = none ∧ b.st.dc.setpoint = (z.stations.get i).dc.setpoint ∧
      b.st.dc.enable = true ∧ b.st.mode = (z.stations.get i).mode ∧
      b.st.ou = (z.stations.get i).ou ∧ b.lineStop = z.lineStop ∧ (z.bench i).TestEnded b :=
  ⟨_, opAbort_driving named driving, (z.bench i).halted_spec .operator⟩

/-- Settles O30: the controlled stop of a driving station, the escalation of a stop, and the refusals. -/
theorem abortStopsTheStation : Obligations.AbortStopsTheStation := by
  refine ⟨fun x => StState.driving_iff, fun s r i asks named => ⟨fun driving => ?_,
    fun stopping => replies_of_asks asks rfl (opAbort_stopping named stopping),
    fun idle => replies_of_asks asks rfl (opAbort_idle named idle)⟩,
    fun s r asks outside => replies_of_asks asks rfl (opAbort_badField outside _)⟩
  obtain ⟨b, rule, spec⟩ := opAbort_driving_spec named driving
  exact ⟨b, replies_of_asks asks rfl rule, spec⟩

/-! ### A station at a forced write -/

theorem Bench.releaseVariant_st (b : Bench) :
    b.releaseVariant.st = { b.st with sc := { b.st.sc with variantUse := false } } := by
  unfold Bench.releaseVariant
  split <;> rfl

theorem Bench.releaseVariant_shared (b : Bench) : b.releaseVariant.store = b.store ∧
    b.releaseVariant.flags = b.flags ∧ b.releaseVariant.lineStop = b.lineStop := by
  unfold Bench.releaseVariant
  split <;> exact ⟨rfl, rfl, rfl⟩

theorem Bench.forceOut_driving {b : Bench} (driving : b.st.sc.state.driving = true) :
    b.forceOut = (b.halted .tableReplaced).releaseVariant := by
  rw [Bench.forceOut, Bench.enterStopping_of_driving .controlled .tableReplaced driving]

theorem Bench.forceOut_stopped {b : Bench} (still : b.st.sc.state.driving = false) :
    b.forceOut = b.releaseVariant := by
  rw [Bench.forceOut, Bench.enterStopping_of_not_driving .controlled .tableReplaced still]

theorem Bench.forceOut_lineStop (b : Bench) : b.forceOut.lineStop = b.lineStop := by
  cases driving : b.st.sc.state.driving with
  | true =>
    obtain ⟨-, -, -, -, -, -, -, -, -, -, lineStop⟩ := b.halted_rest .tableReplaced
    rw [Bench.forceOut_driving driving, (Bench.releaseVariant_shared _).2.2, lineStop]
  | false => rw [Bench.forceOut_stopped driving, (Bench.releaseVariant_shared _).2.2]

/-- What a forced write enters into records: entries of a driving station alone. -/
theorem Bench.forceOut_store (b : Bench) : b.forceOut.store =
    if b.st.sc.state.driving = true
    then b.store.onOpen b.st.sc.recordId (b.abortEntry ∘ b.abandonEntry) else b.store := by
  split
  next driving =>
    obtain ⟨-, -, -, store, -⟩ := b.halted_rest .tableReplaced
    rw [Bench.forceOut_driving driving, (Bench.releaseVariant_shared _).1, store, Bench.testOver_store]
  next still => rw [Bench.forceOut_stopped (Bool.eq_false_iff.2 still), (Bench.releaseVariant_shared _).1]

/-! ### The other stations -/

/-- `t` differs from `s` in nothing that concerns station `i`: the station itself, its setup, and, where
records and stations agree, the records of its id. -/
structure Aside (i : StNo) (s t : State) : Prop where
  station : t.stations.get i = s.stations.get i
  setups : t.setups = s.setups
  lineStop : t.lineStop = s.lineStop
  records : s.RecordsAgree → (s.stations.get i).sc.state ≠ .idle → t.RecordsAgree ∧
    ∀ k q, s.store.At k q → q.id = (s.stations.get i).sc.recordId → t.store.At k q

theorem Aside.refl (i : StNo) (s : State) : Aside i s s :=
  ⟨rfl, rfl, rfl, fun h _ => ⟨h, fun _ _ here _ => here⟩⟩

theorem Aside.trans {i : StNo} {s t u : State} (h : Aside i s t) (h' : Aside i t u) : Aside i s u where
  station := h'.station.trans h.station
  setups := h'.setups.trans h.setups
  lineStop := h'.lineStop.trans h.lineStop
  records agree busy := by
    obtain ⟨agree', keeps⟩ := h.records agree busy
    obtain ⟨agree'', keeps'⟩ := h'.records agree' (by rwa [h.station])
    exact ⟨agree'', fun k q here own => keeps' k q (keeps k q here own) (by rwa [h.station])⟩

/-- Stations that are not IDLE hold records of distinct ids. -/
theorem State.RecordsAgree.distinct {s : State} (h : s.RecordsAgree) {i j : StNo}
    (hi : (s.stations.get i).sc.state ≠ .idle) (hj : (s.stations.get j).sc.state ≠ .idle)
    (same : (s.stations.get i).sc.recordId = (s.stations.get j).sc.recordId) : i = j := by
  obtain ⟨-, -, -, distinct, opened, -⟩ := h
  obtain ⟨k, q, hq, -, idq, sq⟩ := opened i hi
  obtain ⟨k', q', hq', -, idq', sq'⟩ := opened j hj
  obtain rfl := distinct k k' q q' hq hq' (idq.trans (same.trans idq'.symm))
  have both : some (some q) = some (some q') := hq.symm.trans hq'
  obtain rfl : q = q' := by simpa using both
  exact sq.symm.trans sq'

theorem forceStation_aside (e : Entry) {i j : StNo} (ne : i ≠ j) (p : State × Nat) :
    Aside i p.1 (forceStation e j p).1 := by
  refine ⟨?_, ?_, ?_, fun agree busy =>
    ⟨forceStation_keeps (fun _ _ _ hs h => State.RecordsAgree.station hs h) e j agree, fun k q here own => ?_⟩⟩
  · unfold forceStation
    split
    · exact State.putBench_get_ne _ _ _ _ ne
    · rfl
  · unfold forceStation
    split <;> rfl
  · unfold forceStation
    split
    · exact Bench.forceOut_lineStop _
    · rfl
  · unfold forceStation
    split
    · show Store.At ((p.1.bench j).forceOut).store k q
      rw [Bench.forceOut_store]
      split
      next driving =>
        have driven : (p.1.stations.get j).sc.state ≠ .idle := fun h => by
          rw [State.bench_st, h] at driving
          cases driving
        exact Store.onOpen_at_other here (fun h => ne (agree.distinct busy driven (own.symm.trans h.1))) _
      · exact here
    · exact here

/-- The handling of station `i` among that of all users: before and after it nothing concerns station `i`. -/
theorem forceUsers_at (e : Entry) (s : State) (i : StNo) : ∃ p : State × Nat, Aside i s p.1 ∧
    Aside i (forceStation e i p).1 (forceUsers e s).1 := by
  have step : ∀ j, i ≠ j → ∀ p : State × Nat, Aside i p.1 (forceStation e j p).1 :=
    fun j ne p => forceStation_aside e ne p
  unfold forceUsers
  fin_cases i
  · exact ⟨_, .refl _ _, ((step 1 (by decide) _).trans (step 2 (by decide) _)).trans (step 3 (by decide) _)⟩
  · exact ⟨_, step 0 (by decide) (s, 0), (step 2 (by decide) _).trans (step 3 (by decide) _)⟩
  · exact ⟨_, (step 0 (by decide) (s, 0)).trans (step 1 (by decide) _), step 3 (by decide) _⟩
  · exact ⟨_, ((step 0 (by decide) (s, 0)).trans (step 1 (by decide) _)).trans (step 2 (by decide) _), .refl _ _⟩

/-- What a station uses is read of the station and its setup. -/
theorem Aside.uses {i : StNo} {s t : State} (h : Aside i s t) (e : Entry) :
    (t.bench i).uses e = (s.bench i).uses e :=
  Bench.uses_of_grip (by simp [h.station]) (by simp [h.station]) (by simp [h.setups]) e

theorem forceStation_of_unused {e : Entry} {i : StNo} {p : State × Nat}
    (unused : (p.1.bench i).uses e = false) : forceStation e i p = p := by
  rw [forceStation, if_neg (by simp [unused])]

theorem forceStation_of_used {e : Entry} {i : StNo} {p : State × Nat} (used : (p.1.bench i).uses e = true) :
    (forceStation e i p).1 = p.1.putBench i (p.1.bench i).forceOut := by
  rw [forceStation, if_pos used]
  rfl

/-- A user's station after a forced write: as the write leaves it, whatever it does to the others. -/
theorem forceUsers_station {e : Entry} {s : State} {i : StNo} (used : (s.bench i).uses e = true) :
    ∃ b : Bench, b.st = s.stations.get i ∧ (forceUsers e s).1.stations.get i = b.forceOut.st ∧
      (s.RecordsAgree → b.st.sc.state.driving = true → ∀ k q, q.id = b.st.sc.recordId →
        (s.store.At k q → b.store.At k q) ∧ (b.forceOut.store.At k q → (forceUsers e s).1.store.At k q)) := by
  obtain ⟨p, before, after⟩ := forceUsers_at e s i
  have used' := (before.uses e).trans used
  have agree' : p.1.RecordsAgree → (forceStation e i p).1.RecordsAgree :=
    forceStation_keeps (fun _ _ _ hs h => State.RecordsAgree.station hs h) e i
  rw [forceStation_of_used used'] at after agree'
  have station := after.station
  rw [State.putBench_get] at station
  refine ⟨p.1.bench i, before.station, station, fun agree driving k q own => ?_⟩
  have forced : (p.1.bench i).forceOut.st.sc =
      { (p.1.bench i).st.sc.stopped .tableReplaced with variantUse := false } := by
    rw [Bench.forceOut_driving driving, Bench.releaseVariant_sc, Bench.halted_sc]
  have busy : (s.stations.get i).sc.state ≠ .idle := fun h => by
    rw [State.bench_st, before.station, h] at driving
    cases driving
  obtain ⟨agreeBefore, keepsBefore⟩ := before.records agree busy
  have stopped : ((p.1.putBench i (p.1.bench i).forceOut).stations.get i).sc.state ≠ .idle := by
    rw [State.putBench_get, forced]
    exact nofun
  obtain ⟨-, keepsAfter⟩ := after.records (agree' agreeBefore) stopped
  refine ⟨fun here => keepsBefore k q here (by rw [own, State.bench_st, before.station]), fun here =>
    keepsAfter k q here ?_⟩
  rw [State.putBench_get, forced, own]
  rfl

theorem Bench.forceOut_ended {b : Bench} (driving : b.st.sc.state.driving = true) :
    b.forceOut.st.sc.segment = none ∧ b.forceOut.st.point = b.testOver.st.point ∧
      b.forceOut.st.aw = b.testOver.st.aw ∧ b.forceOut.st.lu = b.st.lu.map Activity.aborted := by
  obtain ⟨point, aw, lu, -⟩ := b.halted_rest .tableReplaced
  rw [Bench.forceOut_driving driving, Bench.releaseVariant_st, Bench.halted_sc]
  exact ⟨rfl, point, aw, lu.trans b.testOver_lu⟩

theorem Bench.entries_congr {b c : Bench} (h : b.st = c.st) :
    b.abandonEntry = c.abandonEntry ∧ b.abortEntry = c.abortEntry ∧ b.awUnheard = c.awUnheard := by
  unfold Bench.abandonEntry Bench.abortEntry Bench.awUnheard Bench.segResult Bench.leakResultEntry
    Bench.topRecipe
  rw [h]
  exact ⟨rfl, rfl, rfl⟩

/-- A driving user meets a forced write: its test ends. -/
theorem forceUsers_ended {e : Entry} {s : State} {i : StNo} (used : (s.bench i).uses e = true)
    (driving : (s.stations.get i).sc.state.driving = true) (agree : s.RecordsAgree) :
    (s.bench i).TestEnded ((forceUsers e s).1.bench i) := by
  obtain ⟨b, same, station, records⟩ := forceUsers_station used
  have driving' : b.st.sc.state.driving = true := by rw [same, driving]
  obtain ⟨segment, point, aw, lu⟩ := Bench.forceOut_ended driving'
  obtain ⟨abandon, abort, unheard⟩ := Bench.entries_congr (b := b) (c := s.bench i) same
  refine Bench.testEnded_of ?_ (fun g seg => ?_) ?_ fun k q here own isOpen => ?_
  · rw [State.bench_st, station, segment]
  · rw [State.bench_st, station, point, aw, ← unheard]
    exact b.testOver_listen.1 g (by rw [same]; exact seg)
  · rw [State.bench_st, station, lu, same]
    rfl
  · have own' : q.id = b.st.sc.recordId := by rw [same]; exact own
    have there : b.forceOut.store.At k ((b.abortEntry ∘ b.abandonEntry) q) := by
      rw [Bench.forceOut_store, if_pos driving', ← own']
      exact Store.onOpen_at_self ((records agree driving' k q own').1 here) isOpen _
    have id := (b.abortEntry_keepsIdentity.comp b.abandonEntry_keepsIdentity q).1.trans own'
    refine ⟨_, (records agree driving' k _ id).2 there, ?_⟩
    rw [abandon, abort]
    exact ⟨rfl, rfl, rfl⟩

theorem forceUsers_driving {e : Entry} {s : State} {i : StNo} (used : (s.bench i).uses e = true)
    (driving : (s.stations.get i).sc.state.driving = true) : ((forceUsers e s).1.stations.get i).sc =
      { (s.stations.get i).sc.stopped .tableReplaced with variantUse := false } := by
  obtain ⟨b, same, station, -⟩ := forceUsers_station used
  rw [station, Bench.forceOut_driving (by rw [same, driving]), Bench.releaseVariant_sc, Bench.halted_sc, same]

theorem forceUsers_stopped {e : Entry} {s : State} {i : StNo} (used : (s.bench i).uses e = true)
    (still : (s.stations.get i).sc.state.driving = false) : (forceUsers e s).1.stations.get i =
      { s.stations.get i with sc := { (s.stations.get i).sc with variantUse := false } } := by
  obtain ⟨b, same, station, -⟩ := forceUsers_station used
  rw [station, Bench.forceOut_stopped (by rw [same, still]), Bench.releaseVariant_st, same]

theorem forceUsers_unused {e : Entry} {s : State} {i : StNo} (unused : (s.bench i).uses e = false) :
    (forceUsers e s).1.stations.get i = s.stations.get i := by
  obtain ⟨p, before, after⟩ := forceUsers_at e s i
  rw [forceStation_of_unused ((before.uses e).trans unused)] at after
  exact after.station.trans before.station

/-! ### The count of the stations stopped -/

/-- A station that a forced write of the entry stops. -/
def State.stops (e : Entry) (s : State) (i : StNo) : Bool :=
  (s.bench i).uses e && (s.stations.get i).sc.state.driving

theorem forceStation_count (e : Entry) (i : StNo) (p : State × Nat) :
    (forceStation e i p).2 = p.2 + (p.1.stops e i).toNat := by
  unfold forceStation State.stops
  cases (p.1.bench i).uses e with
  | false => rfl
  | true => cases (p.1.stations.get i).sc.state.driving <;> simp

theorem Aside.stops {i : StNo} {s t : State} (h : Aside i s t) (e : Entry) : t.stops e i = s.stops e i := by
  rw [State.stops, h.uses e, h.station]
  rfl

theorem length_filter_stations (f : StNo → Bool) : (allStations.filter f).length =
    0 + (f 0).toNat + (f 1).toNat + (f 2).toNat + (f 3).toNat := by
  simp only [allStations, List.filter]
  cases f 0 <;> cases f 1 <;> cases f 2 <;> cases f 3 <;> rfl

theorem forceUsers_count (e : Entry) (s : State) :
    (forceUsers e s).2 = (allStations.filter fun i => s.stops e i).length := by
  have a0 : ∀ i : StNo, i ≠ 0 → Aside i s (forceStation e 0 (s, 0)).1 := fun i ne => forceStation_aside e ne (s, 0)
  have a1 := fun (i : StNo) (ne0 : i ≠ 0) (ne1 : i ≠ 1) => (a0 i ne0).trans (forceStation_aside e ne1 _)
  have a2 := fun (i : StNo) (ne0 : i ≠ 0) (ne1 : i ≠ 1) (ne2 : i ≠ 2) =>
    (a1 i ne0 ne1).trans (forceStation_aside e ne2 _)
  rw [forceUsers, forceStation_count, forceStation_count, forceStation_count, forceStation_count,
    (a0 1 (by decide)).stops e, (a1 2 (by decide) (by decide)).stops e,
    (a2 3 (by decide) (by decide) (by decide)).stops e, length_filter_stations]

theorem forceUsers_lineStop (e : Entry) (s : State) : (forceUsers e s).1.lineStop = s.lineStop := by
  obtain ⟨p, before, after⟩ := forceUsers_at e s 0
  have here : (forceStation e 0 p).1.lineStop = p.1.lineStop := by
    unfold forceStation
    split
    · exact Bench.forceOut_lineStop _
    · rfl
  exact after.lineStop.trans (here.trans before.lineStop)

/-! ### O23 -/

theorem Bench.uses_recipe_iff (b : Bench) (r : Nat) :
    b.uses (.recipe r) = true ↔ r ∈ b.st.sc.chain.map ChainEntry.recipe := by
  simp [Bench.uses, chainHolds]

theorem Bench.uses_limits_iff (b : Bench) (n : Nat) :
    b.uses (.limits n) = true ↔ ∃ p, b.st.point = some p ∧ p.limitSet = n := by
  cases h : b.st.point <;> simp [Bench.uses, h]

theorem Bench.uses_angle_iff (b : Bench) (n : Nat) :
    b.uses (.angle n) = true ↔ b.st.point ≠ none ∧ b.setup.angleTable = n := by
  cases h : b.st.point <;> simp [Bench.uses, h]

/-- Once its users are stopped the entry's count is 0. -/
theorem forceUsers_inUse {e : Entry} {s : State} (recipes : s.RecipeCounts) (uses : s.UseCounts) :
    (forceUsers e s).1.lib.inUse e = 0 := by
  have recipes' : (forceUsers e s).1.RecipeCounts :=
    forceUsers_keeps (fun _ _ _ hs h => State.RecipeCounts.station hs h) e recipes
  have uses' : (forceUsers e s).1.UseCounts :=
    forceUsers_keeps (fun _ _ _ hs h => State.UseCounts.station hs h) e uses
  rw [State.recipeCounts_iff] at recipes'
  rw [State.useCounts_iff] at uses'
  obtain ⟨-, counts⟩ := recipes'
  obtain ⟨-, -, variants, limits, angles⟩ := uses'
  have count : (forceUsers e s).1.Counts e := by
    cases e with
    | variant k => exact variants k
    | recipe r => exact counts r
    | limits n => exact limits n
    | angle n => exact angles n
  exact count.trans (State.users_eq_zero (forceUsers_uses e uses.1))

/-- Settles O23: the table writes as they are asked for, and what a forced one does to each station. -/
theorem forcedWriteStopsEveryUser : Obligations.ForcedWriteStopsEveryUser := by
  refine ⟨fun b k => ⟨by simp [Bench.uses], b.uses_recipe_iff k, b.uses_limits_iff k, b.uses_angle_iff k⟩,
    fun e c w s => ⟨fun used => State.write_refused used c w, fun used => State.write_forced used c w,
      fun force free => State.write_free free force c w⟩, fun s r => ⟨?_, ?_, ?_, ?_, ?_⟩,
    fun e s inStep => ⟨fun recipes uses => forceUsers_inUse recipes uses, forceUsers_uses e inStep,
      fun i unused => forceUsers_unused unused, fun i used driving => ?_, fun i used still =>
      forceUsers_stopped used still, fun agree i used driving => forceUsers_ended used driving agree,
      forceUsers_count e s, forceUsers_lineStop e s⟩⟩
  · intro k asks code recipe low high bound where_
    have choice : byteAt r.body 2 ≤ 63 ∨ byteAt r.body 2 = 255 := by omega
    refine replies_of_asks asks rfl (opLoadVariant_placed ⟨code, choice, recipe, low, high⟩ ?_)
    obtain ⟨slot, chosen⟩ | ⟨slot, named⟩ := where_
    · exact Library.placement_held slot chosen
    · rw [named]
      exact Library.placement_named slot bound
  · intro gs stop asks low high number mark segments well
    exact replies_of_asks asks rfl (opLoadRecipe_good low high number mark segments well _)
  · intro asks low high number first second third orders distinct
    exact replies_of_asks asks rfl (opLoadLimits_distinct low high ⟨number, first, second, third, orders⟩
      distinct _)
  · intro asks low high number multiple least most first inside
    exact replies_of_asks asks rfl (opLoadAngle_first
      ⟨low, high, number, multiple, least, most, by omega⟩ first _)
  · intro e asks named
    exact replies_of_asks asks rfl (opDeleteEntry_ok named)
  · rw [forceUsers_driving used driving]
    exact ⟨rfl, rfl, rfl, rfl, rfl, rfl⟩

end Sys2Proof.Machine
end

section
/-! SUPPORT. Admission and reports. -/

namespace Sys2Proof.Machine

/-! ### The checks of ADMIT -/

theorem Setup.unnamed_iff (su : Setup) : (su.heads.any fun n => decide (n = 0)) = true ↔ 0 ∈ su.heads := by
  simp [List.any_eq_true]

section
variable {z : State} {i : StNo} {code k : Nat} {v : Variant}

theorem State.admission_unnamed (h : 0 ∈ (z.setups.get i).heads) :
    z.admission i code = .error .notConfigured :=
  if_pos ((Setup.unnamed_iff _).2 h)

/-- Past check 4 the variant is looked up. -/
theorem State.admission_absent (named : 0 ∉ (z.setups.get i).heads) (absent : z.lib.slotOf code = none) :
    z.admission i code = .error .noEntry := by
  rw [State.admission, if_neg fun h => named ((Setup.unnamed_iff _).1 h), absent]

/-- Checks 6 to 8 of a variant that is there. -/
theorem State.admission_found (named : 0 ∉ (z.setups.get i).heads) (slot : z.lib.slotOf code = some k)
    (there : entryAt z.lib.variants k = some v) : z.admission i code =
      if (entryAt z.lib.recipes v.recipe).isNone then .error .noEntry
      else if (z.setups.get i).heads.all (headSynced z.heads) = false then .error .headUnsynced
      else if (firstFree z.store.slots).isNone then .error .noReportSpace
      else .ok (k, v) := by
  rw [State.admission, if_neg fun h => named ((Setup.unnamed_iff _).1 h), slot]
  dsimp only
  rw [there]

end

theorem firstFree_eq_none {slots : List (Option Record)} : firstFree slots = none ↔ ∀ o ∈ slots, o ≠ none := by
  simp [firstFree, List.findIdx?_eq_none_iff, Option.isSome_iff_ne_none]

section
variable {r : Request} {z : State} {i : StNo} {m : RunMode}

theorem opAdmit_badLength (bad : ¬ (1 ≤ byteAt r.body 4 ∧ byteAt r.body 4 ≤ 20)) (z : State) :
    opAdmit r z = ⟨z, .badLength, .none, [0]⟩ := by
  rw [opAdmit, if_pos (Bool.eq_false_iff.2 fun h => bad (within_iff.1 h))]
  rfl

theorem opAdmit_badField (serial : 1 ≤ byteAt r.body 4 ∧ byteAt r.body 4 ≤ 20)
    (bad : 4 ≤ byteAt r.body 0 ∨ 4 ≤ byteAt r.body 1) (z : State) :
    opAdmit r z = ⟨z, .badField, .none, [0]⟩ := by
  rw [opAdmit, if_neg (by simp [within_iff.2 serial])]
  obtain inside | outside := Nat.lt_or_ge (byteAt r.body 0) 4
  · obtain ⟨i, named⟩ := byteAt_station inside
    rw [onNamed_of_station named, runModeOf_beyond (bad.resolve_left (Nat.not_le.2 inside))]
    rfl
  · rw [onNamed_outside outside]
    rfl

theorem opAdmit_busy (serial : 1 ≤ byteAt r.body 4 ∧ byteAt r.body 4 ≤ 20) (named : byteAt r.body 0 = i.val)
    (mode : runModeOf (byteAt r.body 1) = some m) (busy : (z.stations.get i).sc.state ≠ .idle) :
    opAdmit r z = ⟨z, .stationBusy, .none, [0]⟩ := by
  rw [opAdmit, if_neg (by simp [within_iff.2 serial]), onNamed_of_station named, mode]
  exact if_pos busy

theorem opAdmit_refused (serial : 1 ≤ byteAt r.body 4 ∧ byteAt r.body 4 ≤ 20)
    (named : byteAt r.body 0 = i.val) (mode : runModeOf (byteAt r.body 1) = some m)
    (idle : (z.stations.get i).sc.state = .idle) {c : ReplyCode}
    (checks : z.admission i (u16At r.body 2) = .error c) : opAdmit r z = ⟨z, c, .none, [0]⟩ := by
  rw [opAdmit, if_neg (by simp [within_iff.2 serial]), onNamed_of_station named, mode]
  dsimp only
  rw [if_neg (not_not.2 idle), checks]
  rfl

theorem opAdmit_ok (serial : 1 ≤ byteAt r.body 4 ∧ byteAt r.body 4 ≤ 20) (named : byteAt r.body 0 = i.val)
    (mode : runModeOf (byteAt r.body 1) = some m) (idle : (z.stations.get i).sc.state = .idle) {k : Nat}
    {v : Variant} (checks : z.admission i (u16At r.body 2) = .ok (k, v)) : opAdmit r z =
      ⟨z.putBench i (advance 257 0 ((z.bench i).enrol k v m (r.body.drop 5))).settle, .done, .admitted,
        putU16 z.store.nextId⟩ := by
  rw [opAdmit, if_neg (by simp [within_iff.2 serial]), onNamed_of_station named, mode]
  dsimp only
  rw [if_neg (not_not.2 idle), checks]
  rfl

end

/-- Settles O27: the checks of ADMIT in their order. -/
theorem admissionIsRefusedInOrder : Obligations.AdmissionIsRefusedInOrder := by
  refine fun s r asks => ⟨fun bad => replies_of_asks asks rfl (opAdmit_badLength bad _), fun low high =>
    ⟨fun bad => replies_of_asks asks rfl (opAdmit_badField ⟨low, high⟩ bad _), fun i named code => ?_⟩⟩
  obtain ⟨m, mode⟩ : ∃ m, runModeOf (byteAt r.body 1) = some m := by
    match byteAt r.body 1, code with
    | 0, _ | 1, _ | 2, _ | 3, _ => exact ⟨_, rfl⟩
  refine ⟨fun busy => replies_of_asks asks rfl (opAdmit_busy ⟨low, high⟩ named mode busy), fun idle => ?_⟩
  have refused : ∀ c, s.settle.admission i (u16At r.body 2) = .error c →
      Replies .admitAxle s r ⟨s.settle, c, .none, [0]⟩ := fun c checks =>
    replies_of_asks asks rfl (opAdmit_refused ⟨low, high⟩ named mode idle checks)
  refine ⟨fun unnamed => refused _ (State.admission_unnamed unnamed), fun heads => ⟨fun absent =>
    refused _ (State.admission_absent heads absent), fun k v slot there => ⟨fun none => refused _ ?_,
    fun recipe => ⟨fun ⟨n, mem, unsynced⟩ => refused _ ?_, fun synced full => refused _ ?_⟩⟩⟩⟩
  · rw [State.admission_found heads slot there, if_pos (by simp [none])]
  · rw [State.admission_found heads slot there, if_neg (by simpa using recipe),
      if_pos (List.all_eq_false.2 ⟨n, mem, by simp [unsynced]⟩)]
  · rw [State.admission_found heads slot there, if_neg (by simpa using recipe),
      if_neg (fun h => by rw [List.all_eq_true.2 synced] at h; cases h), if_pos (by simp [firstFree_eq_none.2 full])]

/-! ### The commit -/

theorem State.admission_good {z : State} {i : StNo} {code k f : Nat} {v : Variant} {e : Recipe}
    (synced : ∀ n ∈ (z.setups.get i).heads, n ≠ 0 ∧ headSynced z.heads n = true)
    (slot : z.lib.slotOf code = some k) (there : entryAt z.lib.variants k = some v)
    (recipe : entryAt z.lib.recipes v.recipe = some e)
    (free : z.store.slots.findIdx? Option.isNone = some f) : z.admission i code = .ok (k, v) := by
  have all : (z.setups.get i).heads.all (headSynced z.heads) = true :=
    List.all_eq_true.2 fun n mem => (synced n mem).2
  have space : firstFree z.store.slots = some f := free
  rw [State.admission_found (fun unnamed => (synced 0 unnamed).1 rfl) slot there, recipe, all, space]
  rfl

section
variable (b : Bench) (k : Nat) (v : Variant) (m : RunMode) (serial : List Byte)

theorem Bench.enrol_rest : (b.enrol k v m serial).st.mode = m ∧ (b.enrol k v m serial).st.ou.pass = false ∧
    (b.enrol k v m serial).store = b.store.openRecord b.me v.code v.recipe serial b.now := by
  rw [Bench.enrol, Bench.follow_eq]
  exact ⟨rfl, rfl, rfl⟩

theorem Bench.enrol_dc : (b.enrol k v m serial).st.dc = { Drive.idle with
    params := some (restParams b.setup), enable := true, torqueLimit := driveLimit none b.setup.maxTorque } := by
  rw [Bench.enrol, Bench.follow_eq, Bench.followed_driving rfl]
  rfl

end

/-- The bench of an admitted station before segment 0 is reached. -/
theorem Bench.enrol_spec {b : Bench} {k f : Nat} {v : Variant} {e : Recipe} (m : RunMode) (serial : List Byte)
    (recipe : entryAt b.lib.recipes v.recipe = some e)
    (free : b.store.slots.findIdx? Option.isNone = some f) :
    let c := b.enrol k v m serial
    c.st.sc = { Context.idle with
      state := .running, recordId := b.store.nextId, variantSlot := some k, stopOnFail := e.stopOnFail
      chain := [⟨v.recipe, none⟩], variantUse := true } ∧
    c.st.mode = m ∧ c.st.ou.pass = false ∧ c.st.dc.enable = true ∧ c.st.dc.setpoint = 0 ∧
    c.st.dc.params = some ⟨0, b.setup.stopRate, b.setup.zeroBand, none, none⟩ ∧
    c.store = { b.store with
      idCounter := b.store.nextId
      slots := b.store.slots.set f (some
        { id := b.store.nextId, station := b.me, code := v.code, topRecipe := v.recipe
          serial := serial, admitStamp := b.now, closeStamp := none
          verdict := none, stopReason := none, segsTruncated := false, ordersTruncated := false
          defectsTruncated := false, segs := [], orders := [], defects := [], leak := none
          basis := ⟨false, false, false, false, false⟩, closed := false }) } ∧
    c.lib = (b.lib.useRecipe v.recipe).useVariant k := by
  obtain ⟨mode, pass, store⟩ := b.enrol_rest k v m serial
  have stop : b.lib.stopOnFail v.recipe = e.stopOnFail := by rw [Library.stopOnFail, recipe]
  dsimp only
  rw [Bench.enrol_sc, Bench.enrol_dc, Bench.enrol_lib, store, Store.openRecord_of_free free, stop]
  exact ⟨rfl, mode, pass, rfl, rfl, rfl, rfl, rfl⟩

/-- Settles O26: the commit of an admission whose checks pass. -/
theorem admissionCommits : Obligations.AdmissionCommits := by
  refine ⟨fun su => rfl, fun s r i m k v rec f asks named code low high idle synced slot there recipe free =>
    ?_⟩
  have mode : runModeOf (byteAt r.body 1) = some m := by
    rw [code]
    cases m <;> rfl
  have answers : ∀ a, opAdmit r s.settle = a → Replies .admitAxle s r a := fun a => replies_of_asks asks rfl
  generalize s.settle = z at *
  have same : u16At r.body 2 = v.code := by
    obtain ⟨⟨w, here, code⟩, -⟩ := Library.slotOf_eq_some.1 slot
    rw [← code, Option.some.inj (there.symm.trans here)]
  have checks := State.admission_good synced slot there recipe free
  obtain ⟨sc, runs, pass, enable, setpoint, params, store, lib⟩ :=
    Bench.enrol_spec (b := z.bench i) (k := k) m (r.body.drop 5) recipe free
  refine ⟨_, _, rfl, rfl, answers _ (opAdmit_ok ⟨low, high⟩ named mode idle checks), sc, runs, pass,
    enable, setpoint, params, ?_, lib, fun j ne => State.putBench_get_ne _ _ _ _ ne⟩
  rw [same]
  exact store

end Sys2Proof.Machine
end

section
/-! SUPPORT. READ_REPORT and RELEASE_REPORT. -/

namespace Sys2Proof.Machine

/-! ### The record of an id -/

/-- The record found is the first one of the id. -/
theorem findRecord_eq_some {slots : List (Option Record)} {id : Nat} {q : Record} :
    findRecord slots id = some q ↔ q.id = id ∧ ∃ k, slots[k]? = some (some q) ∧
      ∀ (j : Nat) (r : Record), j < k → slots[j]? = some (some r) → r.id ≠ id := by
  induction slots with
  | nil => simp [findRecord]
  | cons o slots ih =>
    have later : (∀ r, o = some r → r.id ≠ id) → (findRecord (o :: slots) id = some q ↔
        findRecord slots id = some q) := fun ne => by
      cases o with
      | none => rfl
      | some r => rw [findRecord, if_neg (ne r rfl)]
    by_cases here : ∃ r, o = some r ∧ r.id = id
    · obtain ⟨r, rfl, own⟩ := here
      rw [findRecord, if_pos own]
      constructor
      · rintro ⟨⟩
        exact ⟨own, 0, rfl, fun j r h => absurd h (Nat.not_lt_zero j)⟩
      · rintro ⟨-, k, there, before⟩
        cases k with
        | zero => exact Option.some.inj there
        | succ k => exact absurd own (before 0 r (Nat.succ_pos k) rfl)
    · have ne : ∀ r, o = some r → r.id ≠ id := fun r same own => here ⟨r, same, own⟩
      rw [later ne, ih]
      refine and_congr_right fun own => ⟨fun ⟨k, there, before⟩ => ⟨k + 1, there, fun j r less at_ => ?_⟩,
        fun ⟨k, there, before⟩ => ?_⟩
      · cases j with
        | zero => exact ne r (Option.some.inj at_)
        | succ j => exact before j r (by omega) at_
      · cases k with
        | zero => exact absurd own (ne q (Option.some.inj there))
        | succ k => exact ⟨k, there, fun j r less at_ => before (j + 1) r (by omega) at_⟩

/-! ### The serialised form -/

theorem markBits_two (a b : Bool) :
    markBits [a, b] = (if a = true then 1 else 0) + if b = true then 2 else 0 := by
  cases a <;> cases b <;> rfl

theorem Level.bytes_length (l : Level) : l.bytes.length = 3 := rfl
theorem SegResult.bytes_length (x : SegResult) : x.bytes.length = 17 := rfl
theorem DefectEntry.bytes_length (d : DefectEntry) : d.bytes.length = 4 := rfl

theorem OrderResult.bytes_length (x : OrderResult) : x.bytes.length = 7 + 3 * x.levels.length := by
  simp [OrderResult.bytes, flatten_length _ Level.bytes_length]
  omega

theorem flatten_length_sum {α β : Type} (f : α → List β) (l : List α) :
    (l.map f).flatten.length = (l.map fun a => (f a).length).sum := by
  simp [List.length_flatten, Function.comp_def]

theorem optU32_eq (x : Option Nat) : optU32 x = (x.map putU32).getD [] := by
  cases x <;> rfl

theorem optComputed_eq (x : Option Computed) : optComputed x = (x.map fun c =>
    putU32 c.bEnd ++ putU32 c.t ++ putU16 c.rate.q ++
      putU8 ((if c.rate.rise = true then 1 else 0) + if c.rate.sat = true then 2 else 0)).getD [] := by
  cases x with
  | none => rfl
  | some c => exact congrArg (fun n => _ ++ putU8 n) (markBits_two _ _)

/-- The fields of a record in the order of the serialised form. -/
theorem Record.headerBytes_eq (q : Record) : q.headerBytes =
    putU16 q.id ++ putU8 q.station.val ++ putU16 q.code ++ putU8 q.topRecipe ++
      putU32 q.admitStamp.toNat ++ putU32 ((q.closeStamp.map BitVec.toNat).getD 0) ++
      putU8 ((q.verdict.map Verdict.code).getD 0) ++ putU8 (stopReasonCode q.stopReason) ++
      putU8 ((if q.segsTruncated = true then 1 else 0) + (if q.ordersTruncated = true then 2 else 0) +
        if q.defectsTruncated = true then 4 else 0) ++
      putU8 q.serial.length ++ q.serial := by
  have stamp : optWord q.closeStamp = (q.closeStamp.map BitVec.toNat).getD 0 := by cases q.closeStamp <;> rfl
  have verdict : optVerdict q.verdict = (q.verdict.map Verdict.code).getD 0 := by cases q.verdict <;> rfl
  rw [Record.headerBytes, markBits_three, stamp, verdict]

theorem leakBytes_some (x : LeakResult) : leakBytes (some x) =
    putU8 1 ++ putU8 x.outcome.code ++ putU8 (leakReasonCode x.reason) ++
      putU8 ((if x.fillTime.isSome = true then 1 else 0) + (if x.bStart.isSome = true then 2 else 0) +
        if x.computed.isSome = true then 4 else 0) ++
      (x.fillTime.map putU32).getD [] ++ (x.bStart.map putU32).getD [] ++
      (x.computed.map fun c => putU32 c.bEnd ++ putU32 c.t ++ putU16 c.rate.q ++
        putU8 ((if c.rate.rise = true then 1 else 0) + if c.rate.sat = true then 2 else 0)).getD [] := by
  rw [leakBytes, markBits_three, optU32_eq, optU32_eq, optComputed_eq]
  rfl

theorem SegResult.bytes_eq : SegResult.bytes = fun x => putU8 x.recipe ++ putU8 x.index ++
    putU8 x.kind.code ++ putU8 x.outcome.code ++ putU32 x.duration ++ putU32 x.maxError ++
    putU32 x.maxTorque ++ putU8 (if x.clamped = true then 1 else 0) := rfl

theorem Level.bytes_eq : Level.bytes = fun l => putU16 l.level ++ putU8 (if l.sat = true then 1 else 0) := rfl

theorem OrderResult.bytes_eq : OrderResult.bytes = fun x => putU8 x.ordinal ++ putU16 x.order ++
    putU8 (x.band.getD 255) ++ putU8 x.verdict.code ++ putU8 x.voids ++ putU8 x.levels.length ++
    (x.levels.map fun l => putU16 l.level ++ putU8 (if l.sat = true then 1 else 0)).flatten := rfl

/-! ### The requests -/

section
variable {r : Request} {z : State} {q : Record}

theorem Store.closedRecord_none {t : Store} {id : Nat} (none : findRecord t.slots id = none) :
    t.closedRecord id = .error .noReport := by
  rw [Store.closedRecord, none]

theorem Store.closedRecord_some {t : Store} {id : Nat} (found : findRecord t.slots id = some q) :
    t.closedRecord id = if q.closed then .ok q else .error .wrongState := by
  rw [Store.closedRecord, found]

theorem opReadReport_error {c : ReplyCode} (h : z.store.closedRecord (u16At r.body 0) = .error c) :
    opReadReport r z = ⟨z, c, .none, [0]⟩ := by
  rw [opReadReport, h]
  rfl

theorem opReleaseReport_error {c : ReplyCode} (h : z.store.closedRecord (u16At r.body 0) = .error c) :
    opReleaseReport r z = ⟨z, c, .none, [0]⟩ := by
  rw [opReleaseReport, h]
  rfl

theorem opReadReport_beyond (h : z.store.closedRecord (u16At r.body 0) = .ok q)
    (beyond : q.bytes.length ≤ 512 * byteAt r.body 2) : opReadReport r z = ⟨z, .badField, .none, [0]⟩ := by
  rw [opReadReport, h]
  exact if_pos beyond

theorem opReadReport_chunk (h : z.store.closedRecord (u16At r.body 0) = .ok q)
    (inside : 512 * byteAt r.body 2 < q.bytes.length) : opReadReport r z = ⟨z, .done,
      if byteAt r.body 2 = 0 then (if q.bytes.length ≤ 512 then .reportSingle else .reportFirst)
      else if q.bytes.length ≤ 512 * (byteAt r.body 2 + 1) then .reportLast else .reportMiddle,
      putU16 (u16At r.body 0) ++ putU8 (byteAt r.body 2) ++ putU16 q.bytes.length
        ++ (q.bytes.drop (512 * byteAt r.body 2)).take 512⟩ := by
  rw [opReadReport, h]
  exact if_neg (Nat.not_le.2 inside)

theorem opReleaseReport_ok (h : z.store.closedRecord (u16At r.body 0) = .ok q) :
    opReleaseReport r z = ⟨{ z with store := z.store.release (u16At r.body 0) }, .done, .none, [0]⟩ := by
  rw [opReleaseReport, h]
  rfl

end

theorem Store.release_slot {t : Store} {k : Nat} {q : Record} (here : t.At k q) (closed : q.closed = true) :
    (t.release q.id).slots[k]? = some none := by
  unfold Store.release
  rw [List.getElem?_map, show t.slots[k]? = some (some q) from here]
  exact congrArg some (if_pos ⟨rfl, closed⟩)

/-- Settles O31: the codes and the layout of a record, and the branches of the two requests. -/
theorem reportsAreReadAndReleased : Obligations.ReportsAreReadAndReleased := by
  refine ⟨rfl, rfl, rfl, rfl, rfl, rfl, rfl, rfl, fun slots id q => findRecord_eq_some, fun q => ?_,
    fun s r => ⟨fun none => ?_, fun rec found => ?_⟩⟩
  · refine ⟨?_, ?_, ?_, ?_, ?_⟩
    · rw [Record.bytes, Record.headerBytes_eq, SegResult.bytes_eq, OrderResult.bytes_eq]
      cases q.leak with
      | none => rfl
      | some x =>
        rw [leakBytes_some]
        rfl
    · simp
      omega
    · show (putU8 q.segs.length ++ (q.segs.map SegResult.bytes).flatten).length = _
      rw [List.length_append, flatten_length _ SegResult.bytes_length, putU8_length]
    · show (putU8 q.orders.length ++ (q.orders.map OrderResult.bytes).flatten).length = _
      rw [List.length_append, flatten_length_sum, putU8_length, funext OrderResult.bytes_length]
    · show (putU8 q.defects.length ++ (q.defects.map DefectEntry.bytes).flatten).length = _
      rw [List.length_append, flatten_length _ DefectEntry.bytes_length, putU8_length]
  · have refused := Store.closedRecord_none none
    exact ⟨fun asks => replies_of_asks asks rfl (opReadReport_error refused),
      fun asks => replies_of_asks asks rfl (opReleaseReport_error refused)⟩
  · have checked := Store.closedRecord_some found
    have reads : s.Asks 17 r → ∀ a, opReadReport r s.settle = a → Replies .readReport s r a :=
      fun asks a => replies_of_asks asks rfl
    have releases : s.Asks 18 r → ∀ a, opReleaseReport r s.settle = a → Replies .releaseReport s r a :=
      fun asks a => replies_of_asks asks rfl
    generalize s.settle = z at *
    have isOpen : rec.closed = false → z.store.closedRecord (u16At r.body 0) = .error .wrongState :=
      fun isOpen => checked.trans (if_neg (by simp [isOpen]))
    have isClosed : rec.closed = true → z.store.closedRecord (u16At r.body 0) = .ok rec :=
      fun closed => checked.trans (if_pos closed)
    refine ⟨fun asks o => reads asks _ (opReadReport_error (isOpen o)),
      fun asks c beyond => reads asks _ (opReadReport_beyond (isClosed c) beyond),
      fun asks c inside => reads asks _ (opReadReport_chunk (isClosed c) inside),
      fun asks o => releases asks _ (opReleaseReport_error (isOpen o)), fun asks c =>
      ⟨_, releases asks _ (opReleaseReport_ok (isClosed c)), rfl, rfl, List.length_map _,
        fun k q here => ⟨fun other => Store.release_at.2 ⟨here, ?_⟩, fun own closed => ?_⟩⟩⟩
    · rintro ⟨own, closed⟩
      exact other.elim (fun ne => ne own) fun isOpen => by rw [closed] at isOpen; cases isOpen
    · rw [← own]
      exact Store.release_slot here closed

end Sys2Proof.Machine
end

section
/-! SUPPORT. The steps of a station that fall due, and the supervision of drive control. -/

namespace Sys2Proof.Machine

/-! ### The command of a due step -/

/-- The command of a step fires what is due of its own kind. -/
theorem stationCommand_fires (i : StNo) (e : StEvent) (s : State) : ∃ kind,
    exec (stationCommand i e) s = .next (s.fireDue i kind) ∧ kind e = true ∧
      ∀ e', kind e' = true → stationCommand i e' = stationCommand i e := by
  cases e
  case windowClose x d =>
    refine ⟨StEvent.isWindowClose, rfl, rfl, fun e' h => ?_⟩
    cases e'
    case windowClose y k => rfl
    all_goals exact absurd h Bool.false_ne_true
  all_goals exact ⟨_, rfl, decide_eq_true rfl, fun e' h => congrArg _ (of_decide_eq_true h)⟩

theorem exec_of_due {s : State} {i : StNo} {e : StEvent} {rest : List Todo} (due : s.Due i e rest) :
    LeavesBench (stationCommand i e) s i rest ((s.desk i).perform e) := by
  obtain ⟨kind, fires, own, -⟩ := stationCommand_fires i e s
  exact fires.trans (congrArg _ (State.fireDue_of_due due own))

theorem exec_of_not_due {s : State} {i : StNo} {e : StEvent}
    (other : ∀ e' rest, s.Due i e' rest → stationCommand i e' ≠ stationCommand i e) :
    exec (stationCommand i e) s = .next s := by
  obtain ⟨kind, fires, -, only⟩ := stationCommand_fires i e s
  obtain ⟨e', rest, due, here, -⟩ | nothing := s.fireDue_cases i kind
  · exact absurd (only e' here) (other e' rest due)
  · rw [fires, nothing]

/-! ### The work of a list -/

theorem runWork_on {t : Todo} {rest : List Todo} {b : Bench} (ht : ∀ e, t ≠ .due e)
    (none : ((b.setTodo []).work t).st.todo = []) :
    runWork (t :: rest) b = runWork rest ((b.setTodo []).work t) := by
  rw [runWork_cons ht]
  simp only [Bench.goOn, none]

theorem runWork_halt {t : Todo} {rest : List Todo} {b : Bench} (ht : ∀ e, t ≠ .due e)
    (some : ((b.setTodo []).work t).st.todo ≠ []) : runWork (t :: rest) b =
      ((b.setTodo []).work t).setTodo (((b.setTodo []).work t).st.todo ++ rest) := by
  rw [runWork_cons ht]
  unfold Bench.goOn
  split
  · exact absurd ‹_› some
  · rfl

theorem Bench.goOn_of_nil {b : Bench} (h : b.st.todo = []) (rest : List Todo) :
    b.goOn rest = runWork rest b := by
  simp only [Bench.goOn, h]

theorem Bench.goOn_of_ne {b : Bench} (h : b.st.todo ≠ []) (rest : List Todo) :
    b.goOn rest = b.setTodo (b.st.todo ++ rest) := by
  unfold Bench.goOn
  split
  · exact absurd ‹_› h
  · rfl

theorem Bench.raise_of_nil {b : Bench} (h : b.st.todo = []) (e : StEvent) :
    b.raise e = b.setTodo [.due e] := by
  simp only [Bench.raise, h]

/-! ### Step 4 of drive control's work -/

/-- Drive control once the figures and the runs of the segment in progress have been raised (R90 to R92,
R101). -/
def Bench.supervised (b : Bench) : Drive := b.superviseRuns.st.dc

theorem Bench.superviseRuns_eq (b : Bench) : b.superviseRuns = b.setDc b.supervised := by
  unfold Bench.supervised Bench.superviseRuns
  dsimp only
  split
  · split <;> rfl
  · rfl

theorem Bench.supervised_keeps (b : Bench) : b.supervised.reached = b.st.dc.reached ∧
    b.supervised.params = b.st.dc.params ∧ b.supervised.steady = b.st.dc.steady ∧
    b.supervised.dwell = b.st.dc.dwell := by
  unfold Bench.supervised Bench.superviseRuns
  dsimp only
  split
  · split <;> exact ⟨rfl, rfl, rfl, rfl⟩
  · exact ⟨rfl, rfl, rfl, rfl⟩

theorem Bench.supervised_maxTorque (b : Bench) : b.supervised.maxTorque =
    raiseFigure b.st.dc.maxTorque (b.forFigure b.torque.value) := by
  unfold Bench.supervised Bench.superviseRuns
  dsimp only
  split
  · split <;> rfl
  · rfl

theorem Bench.supervised_maxError (b : Bench) : b.supervised.maxError =
    if b.st.dc.reached = true then raiseFigure b.st.dc.maxError (b.forFigure b.speedError)
    else b.st.dc.maxError := by
  unfold Bench.supervised Bench.superviseRuns
  dsimp only
  split
  · split <;> rfl
  · rfl

/-- The runs move only with the reached mark and a persist in force (R91, R92). -/
theorem Bench.supervised_runs {b : Bench} {p : Nat} (reached : b.st.dc.reached = true)
    (persist : b.st.dc.persist = some p) :
    b.supervised.devRun = nextRun b.st.dc.devRun
      (b.speedError.map fun e => decide (b.st.dc.band < e.natAbs)) ∧
    b.supervised.torqueRun = nextRun b.st.dc.torqueRun b.overTorque := by
  simp only [Bench.supervised, Bench.superviseRuns, reached, persist, if_true, Bench.setDc_dc, and_self]

theorem Bench.supervised_runs_kept {b : Bench} (h : b.st.dc.reached = false ∨ b.st.dc.persist = none) :
    b.supervised.devRun = b.st.dc.devRun ∧ b.supervised.torqueRun = b.st.dc.torqueRun := by
  unfold Bench.supervised Bench.superviseRuns
  dsimp only
  split
  next reached =>
    rw [h.resolve_left (by simp [reached])]
    exact ⟨rfl, rfl⟩
  · exact ⟨rfl, rfl⟩

theorem Drive.deviates_iff (d : Drive) : d.deviates = true ↔
    d.reached = true ∧ ∃ p, d.params.bind Params.persist = some p ∧ p ≤ d.devRun := by
  unfold Drive.deviates Drive.persist
  split
  next p h => simp [h]
  next h => simp [h]

theorem Drive.overTorque_iff (d : Drive) : d.overTorque = true ↔
    d.reached = true ∧ ∃ p m, d.params.bind Params.persist = some p ∧
      d.params.bind Params.torqueCheck = some m ∧ p ≤ d.torqueRun := by
  unfold Drive.overTorque Drive.persist Drive.torqueCheck
  split
  next p m hp hm => simp [hp, hm]
  next h =>
    refine ⟨(nomatch ·), ?_⟩
    rintro ⟨-, p, m, hp, hm, -⟩
    exact absurd hm (h p m hp)

/-- What the supervision makes due (R85). -/
def Bench.supervisionDue (g : Segment) (b : Bench) : Option StEvent :=
  if b.st.dc.deviates = true then some .speedDeviation
  else if b.st.dc.overTorque = true then some .torqueLimit
  else b.segmentEvent g.body

theorem Bench.supervise_of_due {b : Bench} {g : Segment} {e : StEvent} (running : b.st.sc.state = .running)
    (segment : b.st.sc.segment = some g) (due : (b.setDc b.supervised).supervisionDue g = some e) :
    b.supervise = (b.setDc b.supervised).raise e := by
  unfold Bench.supervisionDue at due
  simp only [Bench.supervise, running, segment, Bench.superviseRuns_eq]
  split at due
  next h =>
    obtain rfl := Option.some.inj due
    rw [if_pos h]
  next h =>
    rw [if_neg h]
    split at due
    next k =>
      obtain rfl := Option.some.inj due
      rw [if_pos k]
    next k => rw [if_neg k, due]

theorem Bench.supervise_of_none {b : Bench} {g : Segment} (running : b.st.sc.state = .running)
    (segment : b.st.sc.segment = some g) (none : (b.setDc b.supervised).supervisionDue g = none) :
    b.supervise = b.setDc b.supervised := by
  unfold Bench.supervisionDue at none
  simp only [Bench.supervise, running, segment, Bench.superviseRuns_eq]
  split at none
  · exact nomatch none
  next h =>
    rw [if_neg h]
    split at none
    · exact nomatch none
    next k => rw [if_neg k, none]

/-- The supervision of a working segment moves drive control and makes at most one step due. -/
theorem Bench.supervise_eq {b : Bench} {g : Segment} (empty : b.st.todo = [])
    (running : b.st.sc.state = .running) (segment : b.st.sc.segment = some g) :
    b.supervise = (b.setDc b.supervised).setTodo
      (((b.setDc b.supervised).supervisionDue g).map Todo.due).toList := by
  cases h : (b.setDc b.supervised).supervisionDue g with
  | none =>
    rw [Bench.supervise_of_none running segment h]
    exact congrArg (fun l => (b.setDc b.supervised).setTodo l) empty
  | some e =>
    rw [Bench.supervise_of_due running segment h]
    exact Bench.raise_of_nil (b := b.setDc b.supervised) empty e

theorem Bench.supervise_of_not_running {b : Bench} (h : b.st.sc.state ≠ .running) : b.supervise = b := by
  unfold Bench.supervise
  split
  next running _ => exact absurd running h
  · rfl

/-! ### Standing still -/

/-- The drive stands and no leak activity is in progress (R79). -/
def Bench.Standing (b : Bench) : Prop :=
  (∃ v, b.speed = .fresh v ∧ v.natAbs ≤ b.setup.zeroBand) ∧ b.st.dc.setpoint = 0 ∧
    ∀ a, b.st.lu = some a → a.phase = .done

theorem inProgress_eq_false_iff (o : Option Activity) :
    inProgress o = false ↔ ∀ a, o = some a → a.phase = .done := by
  cases o <;> simp [inProgress]

theorem Bench.stopped_iff (b : Bench) :
    b.stopped = true ↔ b.st.sc.state = .stopping ∧ b.Standing := by
  unfold Bench.stopped Bench.Standing Bench.leakBusy
  rw [← inProgress_eq_false_iff]
  cases b.speed <;> simp [Reading.freshValue]
  tauto

theorem Bench.stopTest_of_stopped {b : Bench} (empty : b.st.todo = []) (h : b.stopped = true) :
    b.stopTest = b.setTodo [.due .stopComplete] := by
  rw [Bench.stopTest, if_pos h, Bench.raise_of_nil empty]

theorem Bench.stopTest_of_not_stopped {b : Bench} (h : ¬ b.stopped = true) : b.stopTest = b := by
  rw [Bench.stopTest, if_neg h]

theorem Bench.stopLimit_late {b : Bench} (empty : b.st.todo = []) (stopping : b.st.sc.state = .stopping)
    (late : b.setup.stopTimeout ≤ b.st.sc.stopTimer) : b.stopLimit =
      b.setTodo [.due (if b.stopped = true then .stopComplete else .stopTimeout)] := by
  rw [Bench.stopLimit, if_pos ⟨stopping, late⟩]
  split <;> exact Bench.raise_of_nil empty _

theorem Bench.stopLimit_early {b : Bench}
    (h : ¬ (b.st.sc.state = .stopping ∧ b.setup.stopTimeout ≤ b.st.sc.stopTimer)) : b.stopLimit = b := by
  rw [Bench.stopLimit, if_neg h]

theorem Bench.listenLimit_of_listening {b : Bench} {p : Point} (empty : b.st.todo = [])
    (listening : b.listening = true) (point : b.st.point = some p) : b.listenLimit =
      if p.timeLimit ≤ b.st.sc.segTimer then b.setTodo [.due .listenTimeLimit] else b := by
  simp only [Bench.listenLimit, point, listening, true_and, Bench.raise_of_nil empty]

/-! ### The obligation -/

/-- The figures of a working segment after step 4. -/
theorem Bench.supervised_figures {b : Bench} :
    (∀ v, b.torque.value = some v → 1 ≤ b.st.sc.segTimer →
      b.supervised.maxTorque = max b.st.dc.maxTorque (min v.natAbs 4294967295)) ∧
    (b.torque.value = none ∨ b.st.sc.segTimer = 0 → b.supervised.maxTorque = b.st.dc.maxTorque) ∧
    (∀ e, b.st.dc.reached = true → b.speedError = some e → 1 ≤ b.st.sc.segTimer →
      b.supervised.maxError = max b.st.dc.maxError (min e.natAbs 4294967295)) ∧
    (b.st.dc.reached = false ∨ b.speedError = none ∨ b.st.sc.segTimer = 0 →
      b.supervised.maxError = b.st.dc.maxError) := by
  simp only [Bench.supervised_maxTorque, Bench.supervised_maxError, Bench.forFigure, Bench.figured,
    decide_eq_true_eq]
  refine ⟨fun v value late => ?_, fun h => ?_, fun e reached value late => ?_, fun h => ?_⟩
  · rw [if_pos (Nat.lt_of_succ_le late), value]
    rfl
  · obtain none | zero := h
    · rw [none, ite_self]
      rfl
    · rw [if_neg (by omega)]
      rfl
  · rw [if_pos reached, if_pos (Nat.lt_of_succ_le late), value]
    rfl
  · obtain unreached | none | zero := h
    · rw [if_neg (by simp [unreached])]
    · rw [none, ite_self]
      exact ite_self _
    · rw [if_neg (c := 0 < b.st.sc.segTimer) (by omega)]
      exact ite_self _

/-- The runs of a working segment after step 4. -/
theorem Bench.supervised_counts {b : Bench} :
    (∀ e p, b.st.dc.reached = true → b.st.dc.persist = some p → b.speedError = some e →
      b.supervised.devRun = if b.st.dc.band < e.natAbs then min 255 (b.st.dc.devRun + 1) else 0) ∧
    (b.st.dc.reached = false ∨ b.st.dc.persist = none ∨ b.speedError = none →
      b.supervised.devRun = b.st.dc.devRun) ∧
    (∀ v p m, b.st.dc.reached = true → b.st.dc.persist = some p → b.st.dc.torqueCheck = some m →
      b.torque.value = some v →
      b.supervised.torqueRun = if m < v.natAbs then min 255 (b.st.dc.torqueRun + 1) else 0) ∧
    (b.st.dc.reached = false ∨ b.st.dc.persist = none ∨ b.st.dc.torqueCheck = none ∨
      b.torque.value = none → b.supervised.torqueRun = b.st.dc.torqueRun) := by
  refine ⟨fun e p reached persist value => ?_, fun h => ?_, fun v p m reached persist limit value => ?_,
    fun h => ?_⟩
  · rw [(Bench.supervised_runs reached persist).1, value]
    by_cases bad : b.st.dc.band < e.natAbs <;> simp [bad, nextRun, satAdd]
  · by_cases moves : b.st.dc.reached = false ∨ b.st.dc.persist = none
    · exact (Bench.supervised_runs_kept moves).1
    · obtain ⟨reached, persist⟩ := not_or.1 moves
      obtain ⟨p, persist⟩ := Option.ne_none_iff_exists'.1 persist
      rw [(Bench.supervised_runs (Bool.of_not_eq_false reached) persist).1]
      obtain unreached | none | none := h
      · exact absurd unreached reached
      · rw [persist] at none
        exact nomatch none
      · rw [none]
        rfl
  · rw [(Bench.supervised_runs reached persist).2]
    by_cases bad : m < v.natAbs <;> simp [Bench.overTorque, limit, value, bad, nextRun, satAdd]
  · by_cases moves : b.st.dc.reached = false ∨ b.st.dc.persist = none
    · exact (Bench.supervised_runs_kept moves).2
    · obtain ⟨reached, persist⟩ := not_or.1 moves
      obtain ⟨p, persist⟩ := Option.ne_none_iff_exists'.1 persist
      rw [(Bench.supervised_runs (Bool.of_not_eq_false reached) persist).2]
      obtain unreached | none | none | none := h
      · exact absurd unreached reached
      · rw [persist] at none
        exact nomatch none
      · simp [Bench.overTorque, none, nextRun]
      · cases limit : b.st.dc.torqueCheck <;> simp [Bench.overTorque, none, limit, nextRun]

/-- The step of the completion test or of the time limit, for each kind of segment. -/
theorem Bench.segmentEvent_work (b : Bench) (g : Segment) :
    let due := ((b.segmentEvent g.body).map Todo.due).toList
    (∀ m tc most, g.body = .ramp m tc most → due =
      if b.st.dc.steady = true ∧ 1 ≤ b.st.sc.segTimer then [.due .rampDone]
      else if most ≤ b.st.sc.segTimer then [.due .speedNotReached] else []) ∧
    (∀ m tc duration, g.body = .dwell m tc duration → due =
      if b.st.dc.reached = true ∧ duration ≤ b.st.dc.dwell then [.due .dwellDone] else []) ∧
    (∀ most, g.body = .leakWait most → due =
      if most ≤ b.st.sc.segTimer then [.due .leakWaitTimeout] else []) ∧
    (g.body.kind = .listen → due = []) := by
  refine ⟨fun m tc most body => ?_, fun m tc duration body => ?_, fun most body => ?_, fun kind => ?_⟩
  · simp only [body, Bench.segmentEvent, ← Nat.succ_le_iff]
    split
    · rfl
    · split <;> rfl
  · simp only [body, Bench.segmentEvent]
    split <;> rfl
  · simp only [body, Bench.segmentEvent]
    split <;> rfl
  · cases body : g.body <;> simp [body, SegBody.kind, Bench.segmentEvent] at kind ⊢

/-- Settles O34: each clause is the equation of the piece of work it speaks of. -/
theorem dueStepsAreDone : Obligations.DueStepsAreDone := by
  refine ⟨fun b => ⟨rfl, rfl, rfl⟩, fun x => by cases x <;> rfl, fun s i b => ⟨rfl, rfl, rfl⟩,
    fun b g empty running segment => ?_, fun b empty => ?_, fun s i ts => rfl, fun b rest => ?_,
    fun s i rest b => ⟨fun h => ?_, fun h => ?_⟩, fun s i e rest => exec_of_due,
    fun s i e => exec_of_not_due⟩
  · obtain ⟨reached, params, steady, dwell⟩ := b.supervised_keeps
    obtain ⟨torqueRaised, torqueKept, errorRaised, errorKept⟩ := b.supervised_figures
    obtain ⟨devCounts, devKept, torqueCounts, torqueRunKept⟩ := b.supervised_counts
    have work : b.work .supervise = _ := Bench.supervise_eq empty running segment
    have deviates := b.supervised.deviates_iff
    have strained := b.supervised.overTorque_iff
    rw [reached, params] at deviates strained
    rw [work]
    refine ⟨rfl, rfl, torqueRaised, torqueKept, errorRaised, errorKept, devCounts, devKept, torqueCounts,
      torqueRunKept, fun h => ?_, fun h k => ?_, fun h k => ?_⟩
    · show ((Bench.supervisionDue g (b.setDc b.supervised)).map Todo.due).toList = _
      rw [Bench.supervisionDue, Bench.setDc_dc, if_pos (deviates.2 h)]
      rfl
    · show ((Bench.supervisionDue g (b.setDc b.supervised)).map Todo.due).toList = _
      rw [Bench.supervisionDue, Bench.setDc_dc, if_neg (mt deviates.1 h), if_pos (strained.2 k)]
      rfl
    · have due : (b.setDc b.supervised).supervisionDue g = (b.setDc b.supervised).segmentEvent g.body := by
        rw [Bench.supervisionDue, Bench.setDc_dc, if_neg (mt deviates.1 h), if_neg (mt strained.1 k)]
      have kinds := (b.setDc b.supervised).segmentEvent_work g
      rw [← due, Bench.setDc_dc, reached, steady, dwell] at kinds
      exact kinds
  · have stopped : b.stopped = true ↔ b.st.sc.state = .stopping ∧ b.Standing := b.stopped_iff
    refine ⟨Bench.supervise_of_not_running, fun stopping standing => ⟨?_, fun late => ?_⟩, fun h => ?_,
      fun stopping standing late => ?_, fun h => ?_, fun g p running segment kind point => ?_⟩
    · exact Bench.stopTest_of_stopped empty (stopped.2 ⟨stopping, standing⟩)
    · exact (Bench.stopLimit_late empty stopping late).trans
        (by rw [if_pos (stopped.2 ⟨stopping, standing⟩)])
    · exact Bench.stopTest_of_not_stopped (mt stopped.1 h)
    · exact (Bench.stopLimit_late empty stopping late).trans
        (by rw [if_neg (fun h => standing (stopped.1 h).2)])
    · refine Bench.stopLimit_early fun ⟨stopping, late⟩ => ?_
      exact h.elim (fun ne => ne stopping) (fun early => absurd late (Nat.not_le.2 early))
    · refine Bench.listenLimit_of_listening empty ?_ point
      simp [Bench.listening, running, segment, kind]
  · refine ⟨rfl, fun e => rfl, fun t ht => ⟨runWork_on ht, runWork_halt ht⟩⟩
  · rw [State.resumeWith, Bench.goOn_of_nil h]
  · rw [State.resumeWith, Bench.goOn_of_ne h]

end Sys2Proof.Machine
end

section
/-! SUPPORT. The end of a segment by run mode, the close of a record, and the output unit. -/

namespace Sys2Proof.Machine

/-! ### The end of a segment -/

theorem Bench.afterSegment_run (b : Bench) (o : SegOutcome) : (b.afterSegment o).run = b.byMode o := by
  unfold Bench.afterSegment Bench.byMode
  cases b.st.mode with
  | hold => rfl
  | step => rfl
  | run =>
    dsimp only
    split <;> rfl
  | runThrough => rfl

theorem Bench.endSegment_eq {b : Bench} {g : Segment} (running : b.st.sc.state = .running)
    (segment : b.st.sc.segment = some g) (o : SegOutcome) : b.endSegment o = b.segmentOver g o := by
  simp only [Bench.endSegment, running, segment]
  exact Bench.afterSegment_run _ o

theorem Bench.inKind_of_running {b : Bench} {g : Segment} (running : b.st.sc.state = .running)
    (segment : b.st.sc.segment = some g) (k : SegKind) : b.inKind k = decide (g.body.kind = k) := by
  simp only [Bench.inKind, running, segment]

theorem leaves_of_due {s : State} {i : StNo} {e : StEvent} {rest : List Todo} {b : Bench}
    (due : s.Due i e rest) (does : (s.desk i).perform e = b) :
    LeavesBench (stationCommand i e) s i rest b := does ▸ exec_of_due due

section
variable {b : Bench} {g : Segment} (running : b.st.sc.state = .running) (segment : b.st.sc.segment = some g)
include running segment

theorem Bench.speedNotReached_eq (kind : g.body.kind = .ramp) :
    b.speedNotReached = (b.recordDefect .speedNotReached).segmentOver g .failed := by
  rw [Bench.speedNotReached, Bench.inKind_of_running running segment, if_pos (decide_eq_true kind)]
  exact Bench.endSegment_eq (b := b.recordDefect .speedNotReached) running segment .failed

theorem Bench.torqueLimit_eq :
    b.torqueLimit = (b.recordDefect .torqueLimit).segmentOver g .failed := by
  rw [Bench.torqueLimit, if_pos ⟨running, by rw [segment]; rfl⟩]
  exact Bench.endSegment_eq (b := b.recordDefect .torqueLimit) running segment .failed

theorem Bench.speedDeviation_eq : b.speedDeviation =
    (if b.st.dc.overTorque then (b.recordDefect .speedDeviation).recordDefect .torqueLimit
      else b.recordDefect .speedDeviation).writePoint.segmentOver g .failed := by
  rw [Bench.speedDeviation, if_pos ⟨running, by rw [segment]; rfl⟩]
  have keeps (c : Bench) (same : c.st.sc = b.st.sc) :
      c.writePoint.endSegment .failed = c.writePoint.segmentOver g .failed :=
    Bench.endSegment_eq (by rw [Bench.writePoint_sc, same, running])
      (by rw [Bench.writePoint_sc, same, segment]) .failed
  exact keeps _ (by split <;> rfl)

theorem Bench.leakWaitTimeout_eq (kind : g.body.kind = .leakWait) : b.leakWaitTimeout =
    (b.fixLeak .notJudged (some .timeout) (some .leakNotJudged)).segmentOver g .notJudged := by
  rw [Bench.leakWaitTimeout, Bench.inKind_of_running running segment, if_pos (decide_eq_true kind)]
  exact Bench.endSegment_eq (by rw [Bench.fixLeak_sc, running]) (by rw [Bench.fixLeak_sc, segment]) _

end

/-- Settles O36: each failed check is the entry of its defects and the end of the segment in progress. -/
theorem failedChecksEndTheSegment : Obligations.FailedChecksEndTheSegment := by
  refine ⟨fun b c => rfl, Drive.overTorque_iff, fun s i rest g ⟨running, segment⟩ =>
    ⟨fun due kind => ?_, fun due => ?_, fun due => ?_, fun due kind => ?_⟩⟩
  · exact leaves_of_due due (Bench.speedNotReached_eq running segment kind)
  · exact leaves_of_due due (Bench.torqueLimit_eq running segment)
  · exact leaves_of_due due (Bench.speedDeviation_eq running segment)
  · exact leaves_of_due due (Bench.leakWaitTimeout_eq running segment kind)

/-! ### The close of a record -/

/-- The output unit after a close (R161 step 6, R176). -/
def Bench.ouClosed (silent : Bool) (b : Bench) : Output :=
  (b.tellVerdict silent (b.store.verdictAtClose b.st.sc.recordId b.st.sc.stopReason)).st.ou

theorem Bench.tellVerdict_eq (b : Bench) (silent : Bool) (v : Option Verdict) :
    b.tellVerdict silent v = b.setOu (b.tellVerdict silent v).st.ou := by
  unfold Bench.tellVerdict
  split <;> rfl

theorem Bench.releaseVariant_eq (b : Bench) : b.releaseVariant =
    (b.setLib b.releaseVariant.lib).setSc { b.st.sc with variantUse := false } := by
  unfold Bench.releaseVariant
  split <;> rfl

theorem Bench.closeRecord_of_busy {b : Bench} (busy : b.st.sc.state ≠ .idle) (silent : Bool) :
    b.closeRecord silent = (({ b.setStore (b.store.closeRecord b.st.sc.recordId b.now b.st.sc.stopReason) with
      flags := b.flags.setReportReady } : Bench).tellVerdict silent
        (b.store.verdictAtClose b.st.sc.recordId b.st.sc.stopReason)).releaseVariant.becomeIdle := by
  rw [Bench.closeRecord, if_neg busy]
  rfl

/-- What a close leaves of the station and of what it shares, field by field. -/
theorem Bench.closeRecord_rest {b : Bench} (busy : b.st.sc.state ≠ .idle) (silent : Bool) :
    (b.closeRecord silent).st.dc = Drive.idle ∧ (b.closeRecord silent).st.mode = b.st.mode ∧
    (b.closeRecord silent).st.lu = b.st.lu ∧ (b.closeRecord silent).st.aw = b.st.aw.endListen ∧
    (b.closeRecord silent).st.point = none ∧ (b.closeRecord silent).st.todo = b.st.todo ∧
    (b.closeRecord silent).st.ready = b.st.ready ∧
    (b.closeRecord silent).flags = b.flags.setReportReady ∧
    (b.closeRecord silent).store = b.store.closeRecord b.st.sc.recordId b.now b.st.sc.stopReason ∧
    (b.closeRecord silent).st.ou = b.ouClosed silent := by
  rw [Bench.closeRecord_of_busy busy, Bench.releaseVariant_eq, Bench.tellVerdict_eq]
  refine ⟨rfl, rfl, rfl, rfl, rfl, rfl, rfl, rfl, rfl, ?_⟩
  unfold Bench.ouClosed Bench.tellVerdict
  split <;> rfl

theorem Bench.ouClosed_of_verdict {b : Bench} {v : Verdict}
    (h : b.store.verdictAtClose b.st.sc.recordId b.st.sc.stopReason = some v) :
    b.ouClosed false = b.st.ou.verdict b.setup v := by
  rw [Bench.ouClosed, h]
  rfl

theorem Store.verdictAtClose_eq_some {t : Store} {id : Nat} {why : Option StopReason} {v : Verdict} :
    t.verdictAtClose id why = some v ↔
      ∃ q, findRecord t.slots id = some q ∧ q.closed = false ∧ v = verdictOf q.basis why := by
  unfold Store.verdictAtClose
  constructor
  · split
    next q found =>
      split
      · exact fun h => (nomatch h)
      next isOpen => exact fun h => ⟨q, found, Bool.eq_false_iff.2 isOpen, (Option.some.inj h).symm⟩
    · exact fun h => (nomatch h)
  · rintro ⟨q, found, isOpen, rfl⟩
    rw [found]
    exact if_neg (Bool.eq_false_iff.1 isOpen)

theorem Store.closeRecord_of_verdict {t : Store} {id : Nat} {why : Option StopReason} {v : Verdict}
    (h : t.verdictAtClose id why = some v) (now : Word) : t.closeRecord id now why =
      { t with slots := mapOpen t.slots id (Record.close now why), closeQueue := t.closeQueue ++ [id] } := by
  unfold Store.closeRecord
  rw [h]

theorem Bench.stopComplete_eq {b : Bench} (stopping : b.st.sc.state = .stopping) :
    b.stopComplete = b.closeRecord false := by
  rw [Bench.stopComplete, if_pos stopping]

theorem Bench.stopTimeout_eq {b : Bench} (stopping : b.st.sc.state = .stopping) : b.stopTimeout =
    ((b.setDc b.st.dc.disable).recordDefect .stopTimeout).closeRecord false := by
  rw [Bench.stopTimeout, if_pos stopping]

/-- The tables after a close with variant use held, and without. -/
theorem Bench.releaseVariant_held {b : Bench} {k : Nat} (use : b.st.sc.variantUse = true)
    (slot : b.st.sc.variantSlot = some k) : b.releaseVariant.lib = b.lib.dropVariant k := by
  rw [Bench.releaseVariant, use, slot]
  rfl

theorem Bench.releaseVariant_free {b : Bench}
    (h : b.st.sc.variantUse = false ∨ b.st.sc.variantSlot = none) : b.releaseVariant.lib = b.lib := by
  unfold Bench.releaseVariant
  split
  next use slot => simp [use, slot] at h
  · rfl

/-- Settles O38: the close in its parts. -/
theorem stopsEndInAClosedRecord : Obligations.StopsEndInAClosedRecord := by
  refine ⟨fun s i rest stopping => ⟨fun due => ?_, fun due => ?_⟩,
    fun t id why v => Store.verdictAtClose_eq_some, fun b v busy verdict => ?_⟩
  · exact leaves_of_due due (Bench.stopComplete_eq stopping)
  · exact leaves_of_due due (Bench.stopTimeout_eq stopping)
  · obtain ⟨dc, mode, lu, -, -, -, -, flags, store, ou⟩ := Bench.closeRecord_rest busy false
    have closed := Store.closeRecord_of_verdict verdict b.now
    rw [Bench.closeRecord_sc, if_neg busy, dc, mode, flags, store, ou, lu, Bench.closeRecord_lineStop, closed,
      Bench.ouClosed_of_verdict verdict, Bench.closeRecord_lib busy]
    refine ⟨rfl, ⟨rfl, rfl, rfl⟩, rfl, rfl, rfl, rfl, rfl, rfl, ?_, fun k q here own isOpen => ?_⟩
    · cases use : b.st.sc.variantUse with
      | false => exact Bench.releaseVariant_free (.inl use)
      | true =>
        cases slot : b.st.sc.variantSlot with
        | none => exact Bench.releaseVariant_free (.inr slot)
        | some k => exact Bench.releaseVariant_held use slot
    · exact mapOpen_at.2 ⟨q, here, by rw [if_pos ⟨own, isOpen⟩]; rfl⟩

/-! ### The output unit -/

theorem Output.trigger_pulse {su : Setup} {o : Output} (mode : su.rejectMode = .pulse)
    (ready : o.reject = .ready) : o.trigger su = o.beginPulse su := by
  simp only [Output.trigger, mode, ready]

theorem Output.trigger_catch {su : Setup} {o : Output} (mode : su.rejectMode = .catch)
    (ready : o.reject = .ready) : o.trigger su = { o with reject := .caught } := by
  simp only [Output.trigger, mode, ready]

theorem Output.trigger_wait (su : Setup) {o : Output} (busy : o.reject ≠ .ready) :
    o.trigger su = o.wait := by
  unfold Output.trigger
  split
  next ready => exact absurd ready busy
  · rfl
  next ready => exact absurd ready busy
  · rfl

theorem Output.verdict_trigger (su : Setup) {v : Verdict} (pass : v ≠ .pass) (aborted : v ≠ .aborted)
    (o : Output) : o.verdict su v = o.trigger su := by
  cases v with
  | pass => exact absurd rfl pass
  | aborted => exact absurd rfl aborted
  | _ => rfl

theorem Bench.outputWork_still {b : Bench} (h : b.setup.rejectMode = .catch ∨ b.st.ou.reject = .ready ∨
    b.st.ou.reject = .caught) : b.outputWork = b := by
  unfold Bench.outputWork
  split
  · rfl
  next mode =>
    obtain no | ready | caught := h
    · rw [mode] at no
      exact nomatch no
    · simp only [Output.tickTimers, ready]
      rfl
    · simp only [Output.tickTimers, caught]
      rfl

theorem Bench.outputWork_pulsing {b : Bench} (empty : b.st.todo = []) (mode : b.setup.rejectMode = .pulse)
    (pulsing : b.st.ou.reject = .pulsing) : b.outputWork =
      (b.setOu { b.st.ou with pulseTimer := b.st.ou.pulseTimer + 1 }).setTodo
        (if b.st.ou.width ≤ b.st.ou.pulseTimer + 1 then [.due .pulseEnd] else []) := by
  simp only [Bench.outputWork, mode, Output.tickTimers, pulsing]
  split
  · refine Bench.raise_of_nil ?_ _
    exact empty
  · rw [← empty]
    rfl

theorem Bench.outputWork_recovering {b : Bench} (empty : b.st.todo = [])
    (mode : b.setup.rejectMode = .pulse) (recovering : b.st.ou.reject = .recovering) : b.outputWork =
      (b.setOu { b.st.ou with recoveryTimer := b.st.ou.recoveryTimer + 1 }).setTodo
        (if b.st.ou.recovery ≤ b.st.ou.recoveryTimer + 1 then [.due .recoveryEnd] else []) := by
  simp only [Bench.outputWork, mode, Output.tickTimers, recovering]
  split
  · refine Bench.raise_of_nil ?_ _
    exact empty
  · rw [← empty]
    rfl

/-- Settles O40: by verdict, state and pending count. -/
theorem verdictsDriveTheOutputs : Obligations.VerdictsDriveTheOutputs := by
  refine ⟨fun o => by simp [Output.rejectPin], fun b empty =>
    ⟨Bench.outputWork_still, Bench.outputWork_pulsing empty, Bench.outputWork_recovering empty⟩,
    fun su o v => ⟨?_, ?_, fun pass aborted => ?_⟩⟩
  · rintro rfl
    rfl
  · rintro rfl
    rfl
  · rw [Output.verdict_trigger su pass aborted]
    refine ⟨fun ready mode => Output.trigger_pulse mode ready, fun ready mode => Output.trigger_catch mode ready,
      fun busy room => ?_, fun busy full => ?_⟩
    · rw [Output.trigger_wait su busy, Output.wait, if_pos (show _ < Config.maxPending from room)]
    · rw [Output.trigger_wait su busy, Output.wait,
        if_neg (show ¬ _ < Config.maxPending from Nat.not_lt.2 full)]
      rfl

theorem Output.endRecovery_pending {o : Output} (su : Setup) (h : 0 < o.pending) : o.endRecovery su =
    { o with reject := .pulsing, pulseTimer := 0, width := su.width, pending := o.pending - 1 } := by
  rw [Output.endRecovery, if_pos h]
  rfl

theorem Output.endRecovery_ready {o : Output} (su : Setup) (h : o.pending = 0) :
    o.endRecovery su = { o with reject := .ready } := by
  rw [Output.endRecovery, if_neg (by omega)]

/-- Settles O41: by recovery in force and pending count. -/
theorem pulsesAndRecoveriesEnd : Obligations.PulsesAndRecoveriesEnd := by
  intro s i rest
  refine ⟨fun due recovers => leaves_of_due due ?_, fun due none => ⟨_, leaves_of_due due rfl, ?_⟩,
    fun due none => leaves_of_due due ?_, fun due waits => leaves_of_due due ?_⟩
  · exact congrArg (s.desk i).setOu (if_neg recovers)
  · have ends : (s.stations.get i).ou.endPulse (s.setups.get i) = _ := if_pos none
    refine ⟨fun zero => ?_, fun waits => ?_⟩
    · show ((s.stations.get i).ou.endPulse (s.setups.get i)).reject = _ ∧
        ((s.stations.get i).ou.endPulse (s.setups.get i)).pending = 0
      rw [ends, Output.endRecovery_ready]
      · exact ⟨rfl, zero⟩
      · exact zero
    · show ((s.stations.get i).ou.endPulse (s.setups.get i)).reject = _ ∧
        ((s.stations.get i).ou.endPulse (s.setups.get i)).pending + 1 = _ ∧
        ((s.stations.get i).ou.endPulse (s.setups.get i)).pulseTimer = 0 ∧
        ((s.stations.get i).ou.endPulse (s.setups.get i)).width = _
      rw [ends, Output.endRecovery_pending]
      · exact ⟨rfl, Nat.sub_add_cancel waits, rfl, rfl⟩
      · exact waits
  · exact congrArg (s.desk i).setOu (Output.endRecovery_ready _ none)
  · exact congrArg (s.desk i).setOu (Output.endRecovery_pending _ waits)

end Sys2Proof.Machine
end

section
/-! SUPPORT. What a station's step leaves alone, and the doing of all that is due. -/

namespace Sys2Proof.Machine

/-! ### Records of other tests -/

/-- The records of ids other than `id` and 0 stand as they stood. -/
def Store.Spares (id : Nat) (t u : Store) : Prop := ∀ k q, t.At k q → q.id ≠ id → q.id ≠ 0 → u.At k q

theorem Store.Spares.refl (id : Nat) (t : Store) : Store.Spares id t t := fun _ _ here _ _ => here

theorem Store.Spares.trans {id : Nat} {t u v : Store} (h : Store.Spares id t u) (k : Store.Spares id u v) :
    Store.Spares id t v := fun n q here other zero => k n q (h n q here other zero) other zero

/-- Entries into the record of the id, or into one of id 0. -/
theorem Store.Spares.onOpen {id own : Nat} (t : Store) (f : Record → Record) (h : own = id ∨ own = 0) :
    Store.Spares id t (t.onOpen own f) := fun _ _ here other zero =>
  Store.onOpen_at_other here (fun ⟨same, _⟩ => h.elim (fun k => other (same.trans k))
    (fun k => zero (same.trans k))) f

theorem Store.Spares.close {id own : Nat} (t : Store) (now : Word) (why : Option StopReason)
    (h : own = id ∨ own = 0) : Store.Spares id t (t.closeRecord own now why) := by
  obtain same | ⟨slots, -, -⟩ := t.closeRecord_spec own now why
  · rw [same]
    exact .refl _ _
  · intro k q here other zero
    have there := Store.Spares.onOpen t (Record.close now why) h k q here other zero
    rwa [Store.At, slots]

/-- What a station does within its test reaches no record but its own. -/
theorem Bench.Change.spares {b c : Bench} {id : Nat} (h : b.Change c)
    (own : b.st.sc.recordId = id ∨ b.st.sc.recordId = 0) :
    (c.st.sc.recordId = id ∨ c.st.sc.recordId = 0) ∧ Store.Spares id b.store c.store := by
  cases h with
  | quiet h =>
    obtain ⟨f, -, store⟩ := h.store
    rw [Context.recordId_of_grip h.grip, store]
    exact ⟨own, .onOpen _ f own⟩
  | segment g o =>
    rw [Bench.finishSegment_sc, Bench.finishSegment_eq]
    exact ⟨own, .onOpen _ _ own⟩
  | release =>
    rw [Bench.releaseVariant_sc, (Bench.releaseVariant_shared b).1]
    exact ⟨own, .refl _ _⟩
  | clear | coast | alarm => exact ⟨own, .refl _ _⟩
  | stop _ _ _ hx | hold _ hx | wait _ _ hx | take _ _ hx | listen _ _ _ _ _ _ _ _ hx
  | push _ _ _ _ _ _ hx | swap _ _ _ _ _ _ _ _ hx | pop _ _ _ hx =>
    rw [Bench.setSc_sc, Context.recordId_of_grip hx]
    exact ⟨own, .refl _ _⟩
  | close silent =>
    by_cases idle : b.st.sc.state = .idle
    · rw [Bench.closeRecord, if_pos idle]
      exact ⟨own, .refl _ _⟩
    · obtain ⟨-, -, -, -, -, -, -, -, store, -⟩ := Bench.closeRecord_rest idle silent
      rw [Bench.closeRecord_sc, if_neg idle, store]
      exact ⟨.inr rfl, .close _ _ _ own⟩

theorem Bench.Leads.spares {b c : Bench} {id : Nat} (h : b.Leads c) (own : b.st.sc.recordId = id) :
    (c.st.sc.recordId = id ∨ c.st.sc.recordId = 0) ∧ Store.Spares id b.store c.store := by
  induction h with
  | refl => exact ⟨.inl own, .refl _ _⟩
  | tail _ last ih =>
    obtain ⟨id, store⟩ := last.spares ih.1
    exact ⟨id, ih.2.trans store⟩

/-! ### The choice of the next frame -/

theorem State.pump_queue_length (s : State) : s.pump.queue.length = s.queue.length := by
  unfold State.pump
  split
  · rfl
  · split
    · unfold State.sendOwn
      repeat' split
      all_goals simp [State.send]
    · split <;> rfl

/-- Settles O49: a due step moves its station alone, and no move of a station reaches another record. -/
theorem stationStepsStayAtHome : Obligations.StationStepsStayAtHome := by
  intro s t i e steps
  obtain ⟨kind, fires, -, -⟩ := stationCommand_fires i e s
  obtain rfl : s.fireDue i kind = t := Host.Outcome.next.inj (fires.symm.trans steps)
  obtain ⟨e', rest, -, -, does⟩ | same := s.fireDue_cases i kind
  · have leads : (s.desk i).Leads (((s.desk i).perform e').goOn rest) :=
      ((s.desk i).leads_perform e').trans (Bench.leads_goOn _ rest)
    obtain ⟨rp, queue, pumped⟩ := (s.putBench i (((s.desk i).perform e').goOn rest)).pump_frame
    have length := (s.putBench i (((s.desk i).perform e').goOn rest)).pump_queue_length
    rw [does, State.fireAt, State.resumeWith]
    rw [pumped] at length ⊢
    refine ⟨rfl, rfl, rfl, rfl, rfl, rfl, rfl, length, fun j other => ?_, ?_⟩
    · exact State.putBench_get_ne _ _ _ _ other
    · exact (leads.spares rfl).2
  · rw [same]
    exact ⟨rfl, rfl, rfl, rfl, rfl, rfl, rfl, rfl, fun _ _ => rfl, Store.Spares.refl _ _⟩

end Sys2Proof.Machine
end

section
/-! SUPPORT. Safety trips and faults after the commit. -/

namespace Sys2Proof.Machine

/-! ### Entries of defects -/

theorem Record.addDefect_congr {q q' : Record} (c : DefectCode) (n : Nat) (defects : q'.defects = q.defects)
    (truncated : q'.defectsTruncated = q.defectsTruncated) :
    (q'.addDefect c n).defects = (q.addDefect c n).defects ∧
      (q'.addDefect c n).defectsTruncated = (q.addDefect c n).defectsTruncated := by
  unfold Record.addDefect
  rw [defects]
  split
  · exact ⟨rfl, truncated⟩
  · split
    · exact ⟨rfl, truncated⟩
    · exact ⟨rfl, rfl⟩

theorem Record.addDefect_basis (c : DefectCode) (n : Nat) (q : Record) :
    (q.addDefect c n).basis = q.basis.defect c := by
  unfold Record.addDefect
  repeat' split
  all_goals rfl

theorem Basis.defect_safety {c : DefectCode} (h : c.cls = .safety) (m : Basis) :
    (m.defect c).safety = true := by
  rw [Basis.defect, h]

theorem Basis.defect_fault {c : DefectCode} (h : c.cls = .fault) (m : Basis) :
    (m.defect c).fault = true := by
  rw [Basis.defect, h]

/-- The end of a test enters no defect. -/
theorem Bench.endEntry_defects (b : Bench) (q : Record) :
    (b.abortEntry (b.abandonEntry q)).defects = q.defects ∧
    (b.abortEntry (b.abandonEntry q)).defectsTruncated = q.defectsTruncated ∧
    (b.abortEntry (b.abandonEntry q)).basis.fault = q.basis.fault := by
  have abandon : (b.abandonEntry q).defects = q.defects ∧
      (b.abandonEntry q).defectsTruncated = q.defectsTruncated ∧
      (b.abandonEntry q).basis.fault = q.basis.fault := by
    unfold Bench.abandonEntry
    cases b.st.sc.segment with
    | none => exact ⟨rfl, rfl, rfl⟩
    | some g =>
      dsimp only
      unfold Record.addSegment
      split <;> exact ⟨rfl, rfl, rfl⟩
  have abort : ∀ x : Record, (b.abortEntry x).defects = x.defects ∧
      (b.abortEntry x).defectsTruncated = x.defectsTruncated ∧
      (b.abortEntry x).basis.fault = x.basis.fault := fun x => by
    unfold Bench.abortEntry Bench.leakResultEntry
    cases b.st.lu with
    | none => exact ⟨rfl, rfl, rfl⟩
    | some a =>
      dsimp only
      split
      · split <;> exact ⟨rfl, rfl, rfl⟩
      · exact ⟨rfl, rfl, rfl⟩
  obtain ⟨defects, truncated, fault⟩ := abandon
  obtain ⟨defects', truncated', fault'⟩ := abort (b.abandonEntry q)
  exact ⟨defects'.trans defects, truncated'.trans truncated, fault'.trans fault⟩

theorem Bench.endEntry_keepsIdentity (b : Bench) : KeepsIdentity (b.abortEntry ∘ b.abandonEntry) :=
  b.abortEntry_keepsIdentity.comp b.abandonEntry_keepsIdentity

/-- The record of the station after its test is over. -/
theorem Bench.testOver_at {b : Bench} {k : Nat} {q : Record} (here : b.store.At k q)
    (own : q.id = b.st.sc.recordId) (isOpen : q.closed = false) :
    b.testOver.store.At k (b.abortEntry (b.abandonEntry q)) := by
  rw [Bench.testOver_store, ← own]
  exact Store.onOpen_at_self here isOpen (b.abortEntry ∘ b.abandonEntry)

/-! ### A trip -/

/-- The context of a station that has tripped (R81). -/
def Context.tripped (x : Context) : Context :=
  { (if x.state = .stopping then x else x.stopped .safety) with stopKind := some .coast, safety := true }

theorem Context.tripped_state (x : Context) : x.tripped.state = .stopping := by
  unfold Context.tripped
  split
  next h => exact h
  · rfl

theorem Context.tripped_again (x : Context) : x.tripped.tripped = x.tripped := by
  rw [Context.tripped, if_pos x.tripped_state]
  unfold Context.tripped
  rfl

/-- The records of the station stand in the store with the segment results and the leak result of a test that
has ended. -/
def Bench.KeepsEnd (b : Bench) (t : Store) : Prop :=
  ∀ k q, b.store.At k q → q.id = b.st.sc.recordId → q.closed = false → ∃ q', t.At k q' ∧ q'.id = q.id ∧
    q'.segs = (b.abortEntry (b.abandonEntry q)).segs ∧
    q'.segsTruncated = (b.abortEntry (b.abandonEntry q)).segsTruncated ∧
    q'.leak = (b.abortEntry (b.abandonEntry q)).leak

theorem Bench.keepsEnd_testOver (b : Bench) : b.KeepsEnd b.testOver.store := fun _ q here own isOpen =>
  ⟨_, Bench.testOver_at here own isOpen, (b.endEntry_keepsIdentity q).1, rfl, rfl, rfl⟩

theorem Bench.KeepsEnd.defect {b : Bench} {t : Store} (h : b.KeepsEnd t) (id : Nat) (c : DefectCode)
    (n : Nat) : b.KeepsEnd (t.onOpen id (Record.addDefect c n)) := by
  intro k q here own isOpen
  obtain ⟨q', there, same, segs, truncated, leak⟩ := h k q here own isOpen
  obtain ⟨q'', there', same', segs', truncated', leak'⟩ :=
    Store.KeepsResults.entry (id' := id) t (Record.addDefect_results c n) k q' there rfl
  exact ⟨q'', there', same'.trans same, segs'.trans segs, truncated'.trans truncated, leak'.trans leak⟩

/-- `c` is `b` after trips whose codes are `found`. -/
structure Bench.Tripped (b : Bench) (found : List DefectCode) (c : Bench) : Prop where
  around : c.around = b.around
  sc : c.st.sc = b.st.sc.tripped
  off : c.st.dc.Off
  lineStop : c.lineStop = true
  flags : c.flags = { b.flags with safety := true }
  listen : b.st.sc.state.driving = true → ∀ g, b.st.sc.segment = some g →
    c.st.point = none ∧ c.st.aw = b.awUnheard
  lu : b.st.sc.state.driving = true → c.st.lu = b.st.lu.map Activity.aborted
  results : b.st.sc.state.driving = true → b.KeepsEnd c.store
  records : ∀ k q, b.store.At k q → q.id = b.st.sc.recordId → q.closed = false → ∃ q', c.store.At k q' ∧
    q'.id = q.id ∧ q'.closed = false ∧ q'.basis.safety = true ∧
    q'.defects = (found.foldl (fun r d => Record.addDefect d b.st.sc.executed r) q).defects ∧
    q'.defectsTruncated =
      (found.foldl (fun r d => Record.addDefect d b.st.sc.executed r) q).defectsTruncated

theorem Context.tripped_recordId (x : Context) : x.tripped.recordId = x.recordId := by
  unfold Context.tripped Context.stopped
  split <;> rfl

theorem Context.tripped_executed (x : Context) : x.tripped.executed = x.executed := by
  unfold Context.tripped Context.stopped
  split <;> rfl

/-- The latches and the feedback run. -/
def Drive.latches (d : Drive) : Bool × Bool × Bool × Nat :=
  (d.latchSpeed, d.latchTorque, d.latchFeedback, d.feedback)

/-- The marks and the defect of a trip, once the station is in a COAST stop (R81). -/
def Bench.alarmed (c : DefectCode) (b : Bench) : Bench :=
  { (b.setSc { b.st.sc with safety := true }).recordDefect c with
    lineStop := true, flags := b.flags.setSafety }

theorem Bench.alarmed_spec (b : Bench) (c : DefectCode) : (b.alarmed c).around = b.around ∧
    (b.alarmed c).st = { b.st with sc := { b.st.sc with safety := true } } ∧
    (b.alarmed c).lineStop = true ∧ (b.alarmed c).flags = { b.flags with safety := true } ∧
    (b.alarmed c).store = b.store.onOpen b.st.sc.recordId (Record.addDefect c b.st.sc.executed) :=
  ⟨rfl, rfl, rfl, rfl, rfl⟩

theorem Bench.coast_spec (b : Bench) : b.coast.st =
    { b.st with sc := { b.st.sc with stopKind := some .coast }, dc := b.st.dc.disable } ∧
    b.coast.flags = b.flags ∧ b.coast.store = b.store := ⟨rfl, rfl, rfl⟩

theorem Bench.trip_of_stopping {b : Bench} (stopping : b.st.sc.state = .stopping) (c : DefectCode) :
    b.trip c = b.coast.alarmed c := by
  have busy : b.st.sc.state ≠ .idle := by simp [stopping]
  rw [Bench.trip_eq c busy, Bench.tripped, if_pos stopping]
  rfl

theorem Bench.trip_of_driving {b : Bench} (driving : b.st.sc.state.driving = true) (c : DefectCode) :
    b.trip c = (b.halted .safety).coast.alarmed c := by
  have busy : b.st.sc.state ≠ .idle := fun h => by rw [h] at driving; cases driving
  have going : b.st.sc.state ≠ .stopping := fun h => by rw [h] at driving; cases driving
  rw [Bench.trip_eq c busy, Bench.tripped, if_neg going, Bench.enterStopping_of_driving _ _ driving]
  rfl

theorem Bench.halted_around (b : Bench) (reason : StopReason) : (b.halted reason).around = b.around := by
  simp only [Bench.halted, Bench.follow_around, Bench.setDc_around, Bench.setSc_around]
  exact b.leads_testOver.around

theorem Bench.trip_latches (b : Bench) (c : DefectCode) :
    (b.trip c).st.dc.latches = b.st.dc.latches := by
  by_cases idle : b.st.sc.state = .idle
  · rw [Bench.trip, if_pos idle]
  · by_cases stopping : b.st.sc.state = .stopping
    · rw [Bench.trip_of_stopping stopping, (Bench.alarmed_spec _ c).2.1, b.coast_spec.1]
      rfl
    · rw [Bench.trip_of_driving (StState.driving_of_ne idle stopping), (Bench.alarmed_spec _ c).2.1,
        (Bench.coast_spec _).1, Bench.halted_dc]
      rfl

theorem Bench.trip_todo (b : Bench) (c : DefectCode) : (b.trip c).st.todo = b.st.todo := by
  by_cases idle : b.st.sc.state = .idle
  · rw [Bench.trip, if_pos idle]
  · by_cases stopping : b.st.sc.state = .stopping
    · rw [Bench.trip_of_stopping stopping, (Bench.alarmed_spec _ c).2.1, b.coast_spec.1]
    · obtain ⟨-, -, -, -, -, -, -, -, todo, -⟩ := b.halted_rest .safety
      rw [Bench.trip_of_driving (StState.driving_of_ne idle stopping), (Bench.alarmed_spec _ c).2.1,
        (Bench.coast_spec _).1]
      exact todo

/-- A stop in progress that trips. -/
theorem Bench.trip_stopping {b : Bench} (stopping : b.st.sc.state = .stopping) {c : DefectCode}
    (cls : c.cls = .safety) : b.Tripped [c] (b.trip c) := by
  obtain ⟨around, st, lineStop, flags, store⟩ := b.coast.alarmed_spec c
  obtain ⟨st', flags', store'⟩ := b.coast_spec
  rw [st'] at st store
  rw [flags'] at flags
  rw [store'] at store
  have still : ¬ b.st.sc.state.driving = true := by simp [stopping, StState.driving]
  rw [Bench.trip_of_stopping stopping]
  refine ⟨around, ?_, ?_, lineStop, flags, fun driving => absurd driving still,
    fun driving => absurd driving still, fun driving => absurd driving still, fun k q here own isOpen => ?_⟩
  · rw [st, Context.tripped, if_pos stopping]
  · rw [st]
    exact ⟨rfl, rfl, rfl⟩
  · obtain ⟨id, -, closed⟩ := addDefect_keepsIdentity c b.st.sc.executed q
    have entered := Store.onOpen_at_self here isOpen (Record.addDefect c b.st.sc.executed)
    rw [own] at entered
    rw [store]
    refine ⟨_, entered, id, closed.trans isOpen, ?_, rfl, rfl⟩
    rw [Record.addDefect_basis, Basis.defect_safety cls]

/-- A driving station that trips. -/
theorem Bench.trip_driving {b : Bench} (driving : b.st.sc.state.driving = true) {c : DefectCode}
    (cls : c.cls = .safety) : b.Tripped [c] (b.trip c) := by
  have going : b.st.sc.state ≠ .stopping := fun h => by rw [h] at driving; cases driving
  obtain ⟨around, st, lineStop, flags, store⟩ := (b.halted .safety).coast.alarmed_spec c
  obtain ⟨st', flags', store'⟩ := (b.halted .safety).coast_spec
  obtain ⟨point, aw, lu, stored, -, -, -, -, -, sameFlags, -⟩ := b.halted_rest .safety
  have sc := b.halted_sc .safety
  rw [st'] at st store
  rw [flags', sameFlags] at flags
  rw [store', stored, sc] at store
  rw [sc] at st
  rw [Bench.trip_of_driving driving]
  refine ⟨(around.trans (Bench.coast_around _)).trans (b.halted_around .safety), ?_, ?_, lineStop, flags,
    fun _ g seg => ?_, fun _ => ?_, fun _ => ?_, fun k q here own isOpen => ?_⟩
  · rw [st, Context.tripped, if_neg going]
  · rw [st]
    exact ⟨rfl, rfl, rfl⟩
  · rw [st]
    exact ⟨point.trans (b.testOver_listen.1 g seg).1, aw.trans (b.testOver_listen.1 g seg).2⟩
  · rw [st]
    exact lu.trans b.testOver_lu
  · rw [store]
    exact b.keepsEnd_testOver.defect _ c _
  · have there := Bench.testOver_at here own isOpen
    obtain ⟨defects, truncated, -⟩ := b.endEntry_defects q
    obtain ⟨id, -, closed⟩ := b.endEntry_keepsIdentity q
    obtain ⟨id', -, closed'⟩ :=
      addDefect_keepsIdentity c b.st.sc.executed (b.abortEntry (b.abandonEntry q))
    have entered := Store.onOpen_at_self there (closed.trans isOpen)
      (Record.addDefect c b.st.sc.executed)
    have own' : (b.abortEntry (b.abandonEntry q)).id = b.st.sc.recordId := id.trans own
    rw [own'] at entered
    rw [store]
    refine ⟨_, entered, id'.trans id, closed'.trans (closed.trans isOpen), ?_,
      Record.addDefect_congr c b.st.sc.executed defects truncated⟩
    rw [Record.addDefect_basis, Basis.defect_safety cls]

theorem Bench.trip_tripped {b : Bench} (busy : b.st.sc.state ≠ .idle) {c : DefectCode}
    (cls : c.cls = .safety) : b.Tripped [c] (b.trip c) := by
  by_cases stopping : b.st.sc.state = .stopping
  · exact Bench.trip_stopping stopping cls
  · exact Bench.trip_driving (StState.driving_of_ne busy stopping) cls

/-- A second trip of the same event (R99). -/
theorem Bench.Tripped.again {b c : Bench} {found : List DefectCode} (h : b.Tripped found c)
    {d : DefectCode} (cls : d.cls = .safety) : b.Tripped (found ++ [d]) (c.trip d) := by
  have stopping : c.st.sc.state = .stopping := by rw [h.sc, Context.tripped_state]
  have once := Bench.trip_stopping stopping cls
  obtain ⟨-, st, -, -, store⟩ := c.coast.alarmed_spec d
  rw [c.coast_spec.1] at st store
  rw [c.coast_spec.2.2] at store
  refine ⟨once.around.trans h.around, ?_, once.off, once.lineStop, ?_, fun driving g seg => ?_,
    fun driving => ?_, fun driving => ?_, fun k q here own isOpen => ?_⟩
  · rw [once.sc, h.sc, Context.tripped_again]
  · rw [once.flags, h.flags]
  · rw [Bench.trip_of_stopping stopping, st]
    exact h.listen driving g seg
  · rw [Bench.trip_of_stopping stopping, st]
    exact h.lu driving
  · rw [Bench.trip_of_stopping stopping, store]
    exact (h.results driving).defect _ d _
  · obtain ⟨q', there, id, closed, -, defects, truncated⟩ := h.records k q here own isOpen
    have own' : q'.id = c.st.sc.recordId := by rw [h.sc, Context.tripped_recordId, id, own]
    obtain ⟨q'', there', id', closed', safety, defects', truncated'⟩ := once.records k q' there own' closed
    have executed : c.st.sc.executed = b.st.sc.executed := by rw [h.sc, Context.tripped_executed]
    have same := Record.addDefect_congr d b.st.sc.executed defects truncated
    rw [executed] at defects' truncated'
    rw [List.foldl_append]
    exact ⟨q'', there', id'.trans id, closed', safety, defects'.trans same.1, truncated'.trans same.2⟩

theorem Bench.Tripped.setDc {b c : Bench} {found : List DefectCode} (h : b.Tripped found c) {d : Drive}
    (off : d.Off) : b.Tripped found (c.setDc d) :=
  ⟨h.around, h.sc, off, h.lineStop, h.flags, h.listen, h.lu, h.results, h.records⟩

theorem Bench.Tripped.raise {b c : Bench} {found : List DefectCode} (h : b.Tripped found c) (e : StEvent) :
    b.Tripped found (c.raise e) :=
  ⟨h.around, h.sc, h.off, h.lineStop, h.flags, h.listen, h.lu, h.results, h.records⟩

theorem Bench.Tripped.ended {b c : Bench} {found : List DefectCode} (h : b.Tripped found c)
    (driving : b.st.sc.state.driving = true) : b.TestEnded c := by
  have going : b.st.sc.state ≠ .stopping := fun h => by rw [h] at driving; cases driving
  refine Bench.testEnded_of ?_ (h.listen driving) (h.lu driving) fun k q here own isOpen => ?_
  rotate_left
  · obtain ⟨q', there, -, results⟩ := h.results driving k q here own isOpen
    exact ⟨q', there, results⟩
  rw [h.sc, Context.tripped, if_neg going]
  rfl

theorem Bench.Tripped.context {b c : Bench} {found : List DefectCode} (h : b.Tripped found c) :
    c.st.sc.state = .stopping ∧ c.st.sc.stopKind = some .coast ∧ c.st.sc.safety = true ∧
    c.st.sc.stopReason = if b.st.sc.state = .stopping then b.st.sc.stopReason else some .safety := by
  rw [h.sc]
  refine ⟨Context.tripped_state _, rfl, rfl, ?_⟩
  unfold Context.tripped
  split <;> rfl

end Sys2Proof.Machine
end

section
/-! SUPPORT. Step 1 of drive control's work, and the faults after the commit. -/

namespace Sys2Proof.Machine

/-! ### The trips of step 1 -/

theorem freshOver_iff {r : Reading} {limit : Nat} :
    freshOver r limit = true ↔ ∃ v, r = .fresh v ∧ limit < v.natAbs := by
  cases r <;> simp [freshOver, Reading.freshValue]

theorem Bench.testTrip_fires {b : Bench} {c : DefectCode} {holds latched : Bool}
    {setLatch : Bool → Drive → Drive} (h : holds = true ∧ latched = false) :
    b.testTrip c holds latched setLatch = (b.trip c).setDc (setLatch holds (b.trip c).st.dc) := by
  obtain ⟨rfl, rfl⟩ := h
  rfl

theorem Bench.testTrip_rests {b : Bench} {c : DefectCode} {holds latched : Bool}
    {setLatch : Bool → Drive → Drive} (h : ¬ (holds = true ∧ latched = false)) :
    b.testTrip c holds latched setLatch = b.setDc (setLatch holds b.st.dc) := by
  cases holds with
  | false => rfl
  | true =>
    cases latched with
    | true => rfl
    | false => exact absurd ⟨rfl, rfl⟩ h

/-- OVERSPEED holds at the event with its latch clear (R99). -/
def Bench.Speeds (b : Bench) : Prop :=
  freshOver b.speed b.setup.tripSpeed = true ∧ b.st.dc.latchSpeed = false

/-- OVERTORQUE holds at the event with its latch clear (R99). -/
def Bench.Twists (b : Bench) : Prop :=
  freshOver b.torque b.setup.tripTorque = true ∧ b.st.dc.latchTorque = false

theorem Bench.readings_of_around {b c : Bench} (h : c.around = b.around) :
    c.speed = b.speed ∧ c.torque = b.torque ∧ c.setup = b.setup := by
  obtain ⟨-, -, heads, -, setup, -⟩ := Bench.around_eq h
  simp only [Bench.speed, Bench.torque, heads, setup, and_self]

theorem Drive.latches_eq {d e : Drive} (h : d.latches = e.latches) : d.latchSpeed = e.latchSpeed ∧
    d.latchTorque = e.latchTorque ∧ d.latchFeedback = e.latchFeedback ∧ d.feedback = e.feedback := by
  simpa [Drive.latches] using h

theorem Bench.speedTested_spec {b : Bench} (busy : b.st.sc.state ≠ .idle) :
    b.speedTested.around = b.around ∧ b.speedTested.st.todo = b.st.todo ∧
    b.speedTested.st.dc.latches =
      { b.st.dc with latchSpeed := freshOver b.speed b.setup.tripSpeed }.latches ∧
    (b.Speeds → b.Tripped [.overspeed] b.speedTested) ∧
    (¬ b.Speeds → b.speedTested =
      b.setDc { b.st.dc with latchSpeed := freshOver b.speed b.setup.tripSpeed }) := by
  by_cases fast : b.Speeds
  · obtain ⟨-, torque, feedback, run⟩ := Drive.latches_eq (b.trip_latches .overspeed)
    have tripped := Bench.trip_tripped busy (c := .overspeed) rfl
    rw [Bench.speedTested, Bench.testTrip_fires fast]
    refine ⟨tripped.around, b.trip_todo _, ?_, fun _ => tripped.setDc tripped.off, fun h => absurd fast h⟩
    simp only [Bench.setDc_dc, Drive.latches, torque, feedback, run]
  · rw [Bench.speedTested, Bench.testTrip_rests fast]
    exact ⟨rfl, rfl, rfl, fun h => absurd h fast, fun _ => rfl⟩

/-- What the two trips of step 1 find. -/
theorem Bench.tested_spec {b : Bench} (busy : b.st.sc.state ≠ .idle) :
    let c := b.speedTested.torqueTested
    c.around = b.around ∧ c.st.todo = b.st.todo ∧
    c.st.dc.latches = { b.st.dc with
      latchSpeed := freshOver b.speed b.setup.tripSpeed
      latchTorque := freshOver b.torque b.setup.tripTorque }.latches ∧
    (b.Speeds → ¬ b.Twists → b.Tripped [.overspeed] c) ∧
    (¬ b.Speeds → b.Twists → b.Tripped [.overtorque] c) ∧
    (b.Speeds → b.Twists → b.Tripped [.overspeed, .overtorque] c) ∧
    (¬ b.Speeds → ¬ b.Twists → c = b.setDc { b.st.dc with
      latchSpeed := freshOver b.speed b.setup.tripSpeed
      latchTorque := freshOver b.torque b.setup.tripTorque }) := by
  obtain ⟨around, todo, latches, fired, rested⟩ := Bench.speedTested_spec busy
  generalize b.speedTested = d at *
  obtain ⟨-, torque, setup⟩ := Bench.readings_of_around around
  obtain ⟨latchSpeed, latchTorque, latchFeedback, run⟩ := Drive.latches_eq latches
  have twists : freshOver d.torque d.setup.tripTorque = true ∧ d.st.dc.latchTorque = false ↔ b.Twists := by
    rw [torque, setup, latchTorque]
    rfl
  by_cases strained : b.Twists
  · obtain ⟨speed', -, feedback', run'⟩ := Drive.latches_eq (d.trip_latches .overtorque)
    have again : b.Speeds → b.Tripped [.overspeed, .overtorque] (d.trip .overtorque) := fun fast =>
      (fired fast).again (d := .overtorque) rfl
    have first : ¬ b.Speeds → b.Tripped [.overtorque] (d.trip .overtorque) := fun slow => by
      have tripped := Bench.trip_tripped (b := d) (c := .overtorque) (by rw [rested slow]; exact busy) rfl
      rw [rested slow] at tripped ⊢
      exact ⟨tripped.around, tripped.sc, tripped.off, tripped.lineStop, tripped.flags, tripped.listen,
        tripped.lu, tripped.results, tripped.records⟩
    have off : (d.trip .overtorque).st.dc.Off := by
      by_cases fast : b.Speeds
      · exact (again fast).off
      · exact (first fast).off
    have same : (d.trip .overtorque).around = b.around := by
      rw [Bench.trip_around, around]
    rw [Bench.torqueTested, Bench.testTrip_fires (twists.2 strained)]
    refine ⟨same, (d.trip_todo _).trans todo, ?_, fun _ h => absurd strained h,
      fun slow _ => (first slow).setDc off, fun fast _ => (again fast).setDc off,
      fun _ h => absurd strained h⟩
    simp only [Bench.setDc_dc, Drive.latches, speed', feedback', run', latchSpeed, latchFeedback, run,
      torque, setup]
  · rw [Bench.torqueTested, Bench.testTrip_rests (mt twists.1 strained), torque, setup]
    refine ⟨around, todo, ?_, fun fast _ => (fired fast).setDc (fired fast).off,
      fun _ h => absurd h strained, fun _ h => absurd h strained, fun slow _ => ?_⟩
    · simp only [Bench.setDc_dc, Drive.latches, latchSpeed, latchFeedback, run]
    · rw [rested slow]
      rfl

/-! ### The feedback run -/

theorem Reading.freshValue_isSome {r : Reading} : r.freshValue.isSome = true ↔ ∃ v, r = .fresh v := by
  cases r <;> simp [Reading.freshValue]

theorem Drive.feedbackStep_disabled (d : Drive) (fresh : Bool) :
    d.feedbackStep false fresh = { d with feedback := 0 } := rfl

theorem Drive.feedbackStep_fresh (d : Drive) :
    d.feedbackStep true true = { d with feedback := 0, latchFeedback := false } := rfl

theorem Drive.feedbackStep_stale (d : Drive) :
    d.feedbackStep true false = { d with feedback := min 50 (d.feedback + 1) } := rfl

/-- The feedback run moves neither the drive nor the other latches. -/
theorem Drive.feedbackStep_keeps (d : Drive) (enabled fresh : Bool) :
    d.feedbackStep enabled fresh = { d with
      feedback := (d.feedbackStep enabled fresh).feedback
      latchFeedback := (d.feedbackStep enabled fresh).latchFeedback } := by
  cases enabled <;> cases fresh <;> rfl

/-- The drive after step 1. -/
def Bench.tripsDrive (b : Bench) : Drive :=
  b.speedTested.torqueTested.st.dc.feedbackStep b.st.dc.enable b.speed.freshValue.isSome

/-- Step 1 of drive control's work, told by its two trips and the feedback run. -/
theorem Bench.trips_of_busy {b : Bench} (busy : b.st.sc.state ≠ .idle) : b.trips =
    (b.speedTested.torqueTested.setDc b.tripsDrive).setTodo
      (if b.st.dc.enable = true ∧ b.speed.freshValue = none ∧
          b.setup.feedbackTimeout ≤ b.tripsDrive.feedback ∧ b.tripsDrive.latchFeedback = false
        then .due .feedbackLost :: b.st.todo else b.st.todo) := by
  obtain ⟨around, todo, -⟩ := Bench.tested_spec busy
  obtain ⟨speed, -, setup⟩ := Bench.readings_of_around around
  rw [Bench.trips_eq busy, Bench.tripsDrive, ← todo, ← speed, ← setup]
  generalize b.speedTested.torqueTested = c
  dsimp only
  split
  next due => exact congrArg (c.setDc _).setTodo (if_pos due).symm
  next rest =>
    have still : c.feedbackCounted b.st.dc.enable =
        (c.setDc (c.st.dc.feedbackStep b.st.dc.enable c.speed.freshValue.isSome)).setTodo c.st.todo := rfl
    exact still.trans (congrArg (c.setDc _).setTodo (if_neg rest).symm)

/-- The feedback run after step 1, by the enable that it found and the freshness of the speed (R100). -/
theorem Bench.tripsDrive_feedback {b : Bench} (busy : b.st.sc.state ≠ .idle) :
    (b.st.dc.enable = false →
      b.tripsDrive.feedback = 0 ∧ b.tripsDrive.latchFeedback = b.st.dc.latchFeedback) ∧
    (b.st.dc.enable = true → (∃ v, b.speed = .fresh v) →
      b.tripsDrive.feedback = 0 ∧ b.tripsDrive.latchFeedback = false) ∧
    (b.st.dc.enable = true → ¬ (∃ v, b.speed = .fresh v) →
      b.tripsDrive.feedback = min 50 (b.st.dc.feedback + 1) ∧
      b.tripsDrive.latchFeedback = b.st.dc.latchFeedback) := by
  obtain ⟨-, -, latches, -⟩ := Bench.tested_spec busy
  obtain ⟨-, -, feedback, run⟩ := Drive.latches_eq latches
  unfold Bench.tripsDrive
  refine ⟨fun off => ?_, fun on fresh => ?_, fun on stale => ?_⟩
  · rw [off, Drive.feedbackStep_disabled]
    exact ⟨rfl, feedback⟩
  · rw [on, Reading.freshValue_isSome.2 fresh, Drive.feedbackStep_fresh]
    exact ⟨rfl, rfl⟩
  · rw [on, Bool.eq_false_iff.2 (mt Reading.freshValue_isSome.1 stale), Drive.feedbackStep_stale]
    exact ⟨congrArg (fun n => min 50 (n + 1)) run, feedback⟩

theorem Bench.tripsDrive_latches {b : Bench} (busy : b.st.sc.state ≠ .idle) :
    b.tripsDrive.latchSpeed = freshOver b.speed b.setup.tripSpeed ∧
    b.tripsDrive.latchTorque = freshOver b.torque b.setup.tripTorque := by
  obtain ⟨-, -, latches, -⟩ := Bench.tested_spec busy
  obtain ⟨speed, torque, -, -⟩ := Drive.latches_eq latches
  rw [Bench.tripsDrive, Drive.feedbackStep_keeps]
  exact ⟨speed, torque⟩

theorem Bench.tripsDrive_off {b : Bench} (off : b.speedTested.torqueTested.st.dc.Off) :
    b.tripsDrive.Off := by
  rw [Bench.tripsDrive, Drive.feedbackStep_keeps]
  exact off

theorem Bench.Tripped.setTodo {b c : Bench} {found : List DefectCode} (h : b.Tripped found c)
    (ts : List Todo) : b.Tripped found (c.setTodo ts) :=
  ⟨h.around, h.sc, h.off, h.lineStop, h.flags, h.listen, h.lu, h.results, h.records⟩

/-- The codes of the trips of an event, and the station after step 1. -/
theorem Bench.trips_tripped {b : Bench} (busy : b.st.sc.state ≠ .idle) :
    (b.Speeds → ¬ b.Twists → b.Tripped [.overspeed] b.trips) ∧
    (¬ b.Speeds → b.Twists → b.Tripped [.overtorque] b.trips) ∧
    (b.Speeds → b.Twists → b.Tripped [.overspeed, .overtorque] b.trips) := by
  obtain ⟨-, -, -, fast, strained, both, -⟩ := Bench.tested_spec busy
  have on : ∀ {found}, b.Tripped found b.speedTested.torqueTested → b.Tripped found b.trips := fun h => by
    rw [Bench.trips_of_busy busy]
    exact (h.setDc (Bench.tripsDrive_off h.off)).setTodo _
  exact ⟨fun f s => on (fast f s), fun f s => on (strained f s), fun f s => on (both f s)⟩

/-- An event without a trip moves latches and feedback run alone. -/
theorem Bench.trips_calm {b : Bench} (busy : b.st.sc.state ≠ .idle) (slow : ¬ b.Speeds)
    (loose : ¬ b.Twists) : b.trips.st.sc = b.st.sc ∧ b.trips.store = b.store ∧ b.trips.lib = b.lib ∧
    b.trips.lineStop = b.lineStop ∧ b.trips.flags = b.flags ∧
    b.trips.st.dc.setpoint = b.st.dc.setpoint ∧ b.trips.st.dc.enable = b.st.dc.enable ∧
    b.trips.st.dc.params = b.st.dc.params := by
  obtain ⟨-, -, -, -, -, -, calm⟩ := Bench.tested_spec busy
  rw [Bench.trips_of_busy busy, Bench.tripsDrive, calm slow loose, Drive.feedbackStep_keeps]
  exact ⟨rfl, rfl, rfl, rfl, rfl, rfl, rfl, rfl⟩

/-! ### A fault after the commit -/

/-- A defect entered first does not touch what the end of the test enters. -/
theorem Bench.TestEnded.of_defect {b c : Bench} {code : DefectCode}
    (h : (b.recordDefect code).TestEnded c) : b.TestEnded c := by
  obtain ⟨segment, noLeak, leak, records⟩ := h
  refine ⟨segment, noLeak, leak, fun k q here own isOpen => ?_⟩
  obtain ⟨id, segs, -, same⟩ := q.addDefect_results code b.st.sc.executed
  have entered := Store.onOpen_at_self here isOpen (Record.addDefect code b.st.sc.executed)
  rw [own] at entered
  have still : (q.addDefect code b.st.sc.executed).closed = false :=
    (addDefect_keepsIdentity code b.st.sc.executed q).2.2.trans isOpen
  obtain ⟨q', there, results⟩ := records k _ entered (id.trans own) still
  rw [segs, same] at results
  exact ⟨q', there, results⟩

/-- A driving station that faults (R61). -/
theorem Bench.faultTest_spec {b : Bench} (driving : b.st.sc.state.driving = true) {c : DefectCode}
    (cls : c.cls = .fault) :
    let f := b.faultTest c
    f.st.sc.state = .stopping ∧ f.st.sc.stopKind = some .controlled ∧
    f.st.sc.stopReason = some .fault ∧ f.st.sc.chain = [] ∧ f.st.sc.segment = none ∧
    f.st.sc.stopTimer = 0 ∧ f.st.sc.safety = b.st.sc.safety ∧ f.st.dc.enable = true ∧
    f.st.dc.setpoint = b.st.dc.setpoint ∧ f.lineStop = b.lineStop ∧ f.flags = b.flags ∧ b.TestEnded f ∧
    ∀ k q, b.store.At k q → q.id = b.st.sc.recordId → q.closed = false →
      ∃ q', f.store.At k q' ∧ q'.closed = false ∧ q'.basis.fault = true ∧
        q'.defects = (q.addDefect c b.st.sc.executed).defects ∧
        q'.defectsTruncated = (q.addDefect c b.st.sc.executed).defectsTruncated := by
  have same : b.faultTest c = (b.recordDefect c).halted .fault :=
    Bench.enterStopping_of_driving (b := b.recordDefect c) .controlled .fault driving
  obtain ⟨state, kind, reason, timer, chain, segment, setpoint, enable, -, -, lineStop, ended⟩ :=
    (b.recordDefect c).halted_spec .fault
  obtain ⟨-, -, -, store, -, -, -, -, -, flags, -⟩ := (b.recordDefect c).halted_rest .fault
  have safety : ((b.recordDefect c).halted .fault).st.sc.safety = b.st.sc.safety := by
    rw [Bench.halted_sc]
    rfl
  dsimp only
  rw [same]
  refine ⟨state, kind, reason, chain, segment, timer, safety, enable, setpoint, lineStop, flags,
    ended.of_defect, fun k q here own isOpen => ?_⟩
  have entered := Store.onOpen_at_self here isOpen (Record.addDefect c b.st.sc.executed)
  rw [own] at entered
  obtain ⟨id, -, closed⟩ := addDefect_keepsIdentity c b.st.sc.executed q
  have there := Bench.testOver_at (b := b.recordDefect c) entered (id.trans own) (closed.trans isOpen)
  obtain ⟨defects, truncated, fault⟩ :=
    (b.recordDefect c).endEntry_defects (q.addDefect c b.st.sc.executed)
  obtain ⟨-, -, closed'⟩ := (b.recordDefect c).endEntry_keepsIdentity (q.addDefect c b.st.sc.executed)
  rw [store]
  refine ⟨_, there, closed'.trans (closed.trans isOpen), fault.trans ?_, defects, truncated⟩
  rw [Record.addDefect_basis, Basis.defect_fault cls]

/-! ### The obligation -/

theorem DefectCode.faults_cls : ∀ c ∈ [DefectCode.noRecipe, .recursion, .chainDepth, .noLimits, .noAngle,
    .runaway], c.cls = .fault := by decide

/-- Settles O37: the trips of step 1, the faults, and the two steps that come of them. -/
theorem tripsAndFaultsStopTheStation : Obligations.TripsAndFaultsStopTheStation := by
  refine ⟨fun b idle => if_pos idle, fun b busy => ?_,
    fun b c driving code => Bench.faultTest_spec driving (DefectCode.faults_cls c code),
    fun s i rest => ⟨fun due busy => ?_, fun due driving => ?_⟩⟩
  · obtain ⟨latchSpeed, latchTorque⟩ := Bench.tripsDrive_latches busy
    obtain ⟨off, fresh, stale⟩ := Bench.tripsDrive_feedback busy
    obtain ⟨fast, strained, both⟩ := Bench.trips_tripped busy
    have speeds : b.Speeds ↔ (∃ v, b.speed = .fresh v ∧ b.setup.tripSpeed < v.natAbs) ∧
        b.st.dc.latchSpeed = false := and_congr_left fun _ => freshOver_iff
    have twists : b.Twists ↔ (∃ v, b.torque = .fresh v ∧ b.setup.tripTorque < v.natAbs) ∧
        b.st.dc.latchTorque = false := and_congr_left fun _ => freshOver_iff
    have dc : b.trips.st.dc = b.tripsDrive := by rw [Bench.trips_of_busy busy]; rfl
    have todo := congrArg (fun c : Bench => c.st.todo) (Bench.trips_of_busy busy)
    have freshNone : b.speed.freshValue = none ↔ ¬ ∃ v, b.speed = .fresh v := by
      rw [← Reading.freshValue_isSome, Option.not_isSome_iff_eq_none]
    have work : b.work .trips = b.trips := rfl
    rw [work]
    dsimp only [Bench.setTodo] at todo ⊢
    rw [← speeds, ← twists]
    refine ⟨?_, ?_, fun trips => ?_, fun calm => ?_, fun disabled => ?_, fun enabled isFresh => ?_,
      fun enabled isStale => ?_⟩
    · rw [dc, latchSpeed, freshOver_iff]
    · rw [dc, latchTorque, freshOver_iff]
    · obtain ⟨found, tripped⟩ : ∃ found, b.Tripped found b.trips := by
        by_cases f : b.Speeds
        · by_cases t : b.Twists
          · exact ⟨_, both f t⟩
          · exact ⟨_, fast f t⟩
        · exact ⟨_, strained f (trips.resolve_left f)⟩
      obtain ⟨state, kind, safety, reason⟩ := tripped.context
      refine ⟨state, kind, safety, reason, tripped.off, tripped.lineStop, tripped.flags, tripped.ended,
        fun k q here own isOpen => ?_⟩
      obtain ⟨q', there, -, -, mark, -⟩ := tripped.records k q here own isOpen
      have takes : ∀ {codes : List DefectCode}, b.Tripped codes b.trips →
          q'.defects = (codes.foldl (fun r d => Record.addDefect d b.st.sc.executed r) q).defects ∧
          q'.defectsTruncated =
            (codes.foldl (fun r d => Record.addDefect d b.st.sc.executed r) q).defectsTruncated := fun h => by
        obtain ⟨x, at', -, -, -, defects⟩ := h.records k q here own isOpen
        obtain rfl : q' = x := Option.some.inj (Option.some.inj (there.symm.trans at'))
        exact defects
      exact ⟨q', there, mark, fun f t => takes (fast f t), fun f t => takes (strained f t),
        fun f t => takes (both f t)⟩
    · obtain ⟨slow, loose⟩ := not_or.1 calm
      exact Bench.trips_calm busy slow loose
    · obtain ⟨run, latch⟩ := off disabled
      rw [dc, todo]
      exact ⟨run, latch, if_neg (by simp [disabled])⟩
    · obtain ⟨run, latch⟩ := fresh enabled isFresh
      rw [dc, todo]
      exact ⟨run, latch, if_neg fun h => freshNone.1 h.2.1 isFresh⟩
    · obtain ⟨run, latch⟩ := stale enabled isStale
      rw [dc, todo, run, latch]
      refine ⟨rfl, rfl, if_congr ?_ rfl rfl⟩
      simp only [enabled, freshNone.2 isStale, true_and]
  · have tripped := (Bench.trip_tripped (b := s.desk i) busy (c := .feedbackLost) rfl)
    obtain ⟨state, kind, safety, reason⟩ := tripped.context
    refine ⟨_, leaves_of_due due rfl, state, kind, safety, reason, tripped.off, rfl, tripped.lineStop, ?_,
      tripped.ended, fun k q here own isOpen => ?_⟩
    · show ((s.desk i).trip .feedbackLost).flags.safety = true
      rw [tripped.flags]
    · obtain ⟨q', there, -, -, mark, defects⟩ := tripped.records k q here own isOpen
      exact ⟨q', there, mark, defects⟩
  · obtain ⟨state, kind, reason, chain, -, -, -, -, -, lineStop, flags, ended, records⟩ :=
      Bench.faultTest_spec (b := s.desk i) driving (c := .runaway) rfl
    refine ⟨_, leaves_of_due due rfl, state, kind, reason, chain, lineStop, flags, ended,
      fun k q here own isOpen => ?_⟩
    obtain ⟨q', there, -, fault, defects⟩ := records k q here own isOpen
    exact ⟨q', there, fault, defects⟩

end Sys2Proof.Machine
end

section
/-! SUPPORT. Levels, bands and the vote. -/

namespace Sys2Proof.Machine

theorem BandLimits.at_eq (l : BandLimits) (band : Nat) : l.at_ band =
    if band = 0 then l.b0 else if band = 1 then l.b1 else if band = 2 then l.b2 else l.b3 := by
  unfold BandLimits.at_
  split
  · rfl
  · rfl
  · rfl
  next zero one two => rw [if_neg zero, if_neg one, if_neg two]

theorem Point.bandOf_eq {p : Point} (v : Nat) (first : p.edge1 < p.edge2) (second : p.edge2 < p.edge3) :
    (v < p.edge1 → p.bandOf v = 0) ∧ (p.edge1 ≤ v → v < p.edge2 → p.bandOf v = 1) ∧
    (p.edge2 ≤ v → v < p.edge3 → p.bandOf v = 2) ∧ (p.edge3 ≤ v → p.bandOf v = 3) := by
  unfold Point.bandOf
  refine ⟨fun below => ?_, fun low high => ?_, fun low high => ?_, fun above => ?_⟩
  · rw [if_neg (by omega), if_neg (by omega), if_neg (by omega)]
  · rw [if_pos low, if_neg (by omega), if_neg (by omega)]
  · rw [if_pos (by omega), if_pos low, if_neg (by omega)]
  · rw [if_pos (by omega), if_pos (by omega), if_pos above]

theorem voteAll_eq_zipWith (band en : Nat) {ls : List PointLine} {as : List Accum}
    (h : ls.length = as.length) : voteAll band en ls as =
      List.zipWith (fun l a => l.count band (levelOf a.magnitude en)) ls as := by
  induction ls generalizing as with
  | nil => cases as <;> simp [voteAll] at h ⊢
  | cons l ls ih =>
    cases as with
    | nil => cases h
    | cons a as => rw [voteAll, List.zipWith_cons_cons, ih (Nat.succ.inj h)]

theorem PointLine.count_settled {l : PointLine} (band : Nat) (lv : Level)
    (h : l.computed = false ∨ l.verdict ≠ .undecided) : l.count band lv = l := by
  unfold PointLine.count
  rw [if_neg]
  rintro ⟨computed, undecided⟩
  obtain out | decided := h
  · rw [out] at computed
    cases computed
  · exact decided undecided

theorem PointLine.count_exceed {l : PointLine} {band : Nat} {lv : Level} (computed : l.computed = true)
    (undecided : l.verdict = .undecided) (h : l.limits.at_ band < lv.level) : l.count band lv =
      { l with
        levels := l.levels ++ [lv], lastBand := some band, exceed := l.exceed + 1
        verdict := if 1 ≤ l.exceed then .fail else .undecided } := by
  simp only [PointLine.count, computed, undecided, and_self, if_true, h,
    Nat.succ_le_succ_iff]

theorem PointLine.count_clear {l : PointLine} {band : Nat} {lv : Level} (computed : l.computed = true)
    (undecided : l.verdict = .undecided) (h : lv.level ≤ l.limits.at_ band) : l.count band lv =
      { l with
        levels := l.levels ++ [lv], lastBand := some band, clear := l.clear + 1
        verdict := if 1 ≤ l.clear then .pass else .undecided } := by
  simp only [PointLine.count, computed, undecided, and_self, if_true, if_neg (Nat.not_lt.2 h),
    Nat.succ_le_succ_iff]

theorem scale_nat (n : Nat) : scale (n : Int) = ((n + 16384) / 32768 : Nat) := by
  rw [scale, if_pos (Int.natCast_nonneg n), Int.toNat_natCast]

theorem scale_neg_nat (n : Nat) : scale (-(n : Int)) = -(((n + 16384) / 32768 : Nat) : Int) := by
  cases n with
  | zero => rfl
  | succ n => rw [scale, if_neg (by omega), Int.neg_neg, Int.toNat_natCast]

theorem levelOf_of_le {g en : Nat} (h : (2 * g + en / 2) / en ≤ 65535) :
    levelOf g en = ⟨(2 * g + en / 2) / en, false⟩ := if_neg (Nat.not_lt.2 h)

theorem levelOf_of_lt {g en : Nat} (h : 65535 < (2 * g + en / 2) / en) :
    levelOf g en = ⟨65535, true⟩ := if_pos h

/-- Settles O52: bands by the edges, the vote line by line, and the two roundings. -/
theorem levelsAreRounded : Obligations.LevelsAreRounded := by
  refine ⟨fun p v => Point.bandOf_eq v, fun band en ls as => voteAll_eq_zipWith band en, fun band lv l => ?_,
    fun n => ⟨scale_nat n, scale_neg_nat n⟩, fun g en _ => ⟨levelOf_of_le, levelOf_of_lt⟩⟩
  dsimp only
  rw [← BandLimits.at_eq]
  exact ⟨PointLine.count_settled band lv,
    fun computed undecided => ⟨PointLine.count_exceed computed undecided,
      PointLine.count_clear computed undecided⟩⟩

end Sys2Proof.Machine
end

section
/-! SUPPORT. The angle windows of a listening point. -/

namespace Sys2Proof.Machine

/-! ### The attempts of a point -/

theorem Point.settled_iff (p : Point) : p.settled = true ↔ ∀ l ∈ p.lines, l.verdict ≠ .undecided := by
  simp [Point.settled]

theorem Point.settled_eq_false_iff (p : Point) :
    p.settled = false ↔ ∃ l ∈ p.lines, l.verdict = .undecided := by
  rw [← Bool.not_eq_true, Point.settled_iff]
  simp

theorem Bench.pointSettled_iff (b : Bench) : b.pointSettled = true ↔
    ∃ pt, b.st.point = some pt ∧ ∀ l ∈ pt.lines, l.verdict ≠ .undecided := by
  unfold Bench.pointSettled
  cases b.st.point <;> simp [Point.settled_iff]

theorem Bench.exhausted_iff (b : Bench) : b.exhausted = true ↔ ∃ pt, b.st.point = some pt ∧
    (∃ l ∈ pt.lines, l.verdict = .undecided) ∧ pt.maxAttempts ≤ b.st.aw.attempts := by
  unfold Bench.exhausted
  cases b.st.point <;> simp [Point.settled_eq_false_iff]

/-- The work of a station whose attempts have come to a number. -/
def Bench.cutOffDue (attempts : Nat) (b : Bench) : List Todo :=
  match b.st.point with
  | some pt =>
    if (∃ l ∈ pt.lines, l.verdict = .undecided) ∧ pt.maxAttempts ≤ attempts then [.due .listenCutOff] else []
  | none => []

theorem Bench.cutOffDue_of_exhausted {b : Bench} (h : b.exhausted = true) :
    b.cutOffDue b.st.aw.attempts = [.due .listenCutOff] := by
  obtain ⟨pt, point, out⟩ := b.exhausted_iff.1 h
  rw [Bench.cutOffDue, point]
  exact if_pos out

theorem Bench.cutOffDue_of_not_exhausted {b : Bench} (h : ¬ b.exhausted = true) :
    b.cutOffDue b.st.aw.attempts = [] := by
  unfold Bench.cutOffDue
  split
  next pt point => exact if_neg fun out => h (b.exhausted_iff.2 ⟨pt, point, out⟩)
  · rfl

theorem Bench.testCutOff_eq {b : Bench} (empty : b.st.todo = []) :
    b.testCutOff = b.setTodo (b.cutOffDue b.st.aw.attempts) := by
  unfold Bench.testCutOff
  split
  next out => rw [Bench.cutOffDue_of_exhausted out, Bench.raise_of_nil empty]
  next left =>
    rw [Bench.cutOffDue_of_not_exhausted left, ← empty]
    rfl

/-! ### A window that ends VOID -/

/-- The unit after a window has ended VOID (R113, R118). -/
def AngleUnit.voided (why : VoidReason) (speed : Option Nat) (a : AngleUnit) : AngleUnit :=
  { a with
    state := .seeking, attempts := a.attempts + 1, voids := a.voids + 1
    window := a.window.map fun w =>
      { w with state := .void, reason := some why, speed := speed, accums := [] } }

theorem Bench.voidWindow_of_collecting {b : Bench} (collecting : b.st.aw.state = .collecting)
    (why : VoidReason) (speed : Option Nat) :
    b.voidWindow why speed = (b.setAw (b.st.aw.voided why speed)).testCutOff := if_pos collecting

theorem Bench.voidWindow_of_not_collecting {b : Bench} (still : b.st.aw.state ≠ .collecting)
    (why : VoidReason) (speed : Option Nat) : b.voidWindow why speed = b := if_neg still

theorem Bench.voidWindow_eq {b : Bench} (empty : b.st.todo = []) (collecting : b.st.aw.state = .collecting)
    (why : VoidReason) (speed : Option Nat) : b.voidWindow why speed =
      (b.setAw (b.st.aw.voided why speed)).setTodo (b.cutOffDue (b.st.aw.attempts + 1)) := by
  rw [Bench.voidWindow_of_collecting collecting]
  exact Bench.testCutOff_eq (b := b.setAw _) empty

/-- Settles O43: the window ends VOID, and the cut-off falls due with the attempts. -/
theorem slowWindowIsVoid : Obligations.SlowWindowIsVoid := by
  intro s i rest w due collecting window
  have slow : (s.desk i).slow = ((s.desk i).setAw ((s.stations.get i).aw.voided .slow none)).setTodo
      ((s.desk i).cutOffDue ((s.stations.get i).aw.attempts + 1)) :=
    Bench.voidWindow_eq rfl collecting .slow none
  refine ⟨_, leaves_of_due due slow, ?_, rfl, rfl, fun pt point => ?_⟩
  · show (s.stations.get i).aw.voided .slow none = _
    rw [AngleUnit.voided, window]
    rfl
  · show (s.desk i).cutOffDue ((s.stations.get i).aw.attempts + 1) = _ ↔ _
    have here : (s.desk i).st.point = some pt := point
    rw [Bench.cutOffDue, here]
    dsimp only
    split
    next out => exact iff_of_true rfl out
    next left => exact iff_of_false (fun h => (nomatch h)) left

/-! ### Sample sets -/

theorem addAll_eq_zipWith (p : ListenParams) (k : Nat) (x : Int) (ls : List PointLine) (as : List Accum) :
    addAll p k x ls as = List.zipWith (fun l s => s.add p k x l) ls as := by
  induction ls generalizing as with
  | nil => rfl
  | cons l ls ih =>
    cases as with
    | nil => rfl
    | cons a as => rw [addAll, List.zipWith_cons_cons, ih]

/-- The accumulators of a new window take x[0]. -/
theorem addAll_clear (p : ListenParams) (x : Int) (ls : List PointLine) :
    addAll p 0 x ls (clearAccums ls) = ls.map fun l =>
      if l.computed = true then ⟨x * tableAt p 0, x * tableAt p (3 * p.e / 4)⟩ else ⟨0, 0⟩ := by
  rw [addAll_eq_zipWith, clearAccums, List.zipWith_map_right, List.zipWith_self]
  simp only [Accum.add, Nat.mul_zero, Nat.zero_add, Int.zero_add]

theorem Bench.filling_eq_false_iff (b : Bench) :
    b.filling = false ↔ ∀ a, b.st.lu = some a → a.phase ≠ .fill := by
  unfold Bench.filling
  cases b.st.lu <;> simp

theorem Bench.listening_iff (b : Bench) : b.listening = true ↔ b.st.sc.state = .running ∧
    ∃ g, b.st.sc.segment = some g ∧ g.body.kind = .listen := by
  unfold Bench.listening
  cases b.st.sc.segment <;> simp

/-- The start conditions of R105. -/
def Bench.Starts (step : Int) (b : Bench) : Prop :=
  step ≠ 0 ∧ b.st.sc.state = .running ∧
    (∃ g, b.st.sc.segment = some g ∧ g.body.kind = .listen) ∧ b.st.dc.steady = true ∧
    (∀ act, b.st.lu = some act → act.phase ≠ .fill) ∧
    headSynced b.heads b.setup.vibrationHead = true

theorem Bench.starts_iff (b : Bench) (step : Int) :
    b.Starts step ↔ step ≠ 0 ∧ b.mayStart = true := by
  unfold Bench.Starts Bench.mayStart
  rw [← b.filling_eq_false_iff, Bool.and_eq_true, Bool.and_eq_true, Bool.and_eq_true, b.listening_iff,
    Bool.not_eq_true']
  tauto

theorem Bench.testStart_rests {b : Bench} {step : Int} (h : ¬ b.Starts step) (x : SampleSet) :
    b.testStart x step = b := by
  rw [Bench.starts_iff] at h
  exact if_neg fun ⟨moves, may, _⟩ => h ⟨moves, may⟩

/-- The window that a set starts (R105, R118). -/
def startedWindow (x : SampleSet) (step : Int) (p : ListenParams) (pt : Point) : WindowRecord :=
  { startAngle := x.angle, direction := if 0 < step then .up else .down, k := 0, ts := 0
    speed := none, state := .collecting, reason := none
    accums := addAll p 0 (x.accel p.channel) pt.lines (clearAccums pt.lines) }

theorem Bench.testStart_starts {b : Bench} {step : Int} (seeking : b.st.aw.state = .seeking)
    (h : b.Starts step) {p : ListenParams} {pt : Point} (params : b.st.aw.params = some p)
    (point : b.st.point = some pt) (x : SampleSet) : b.testStart x step =
      b.setAw { b.st.aw with state := .collecting, window := some (startedWindow x step p pt) } := by
  obtain ⟨moves, may⟩ := (b.starts_iff step).1 h
  rw [Bench.testStart, if_pos ⟨moves, may, seeking⟩, Bench.startWindow, params, point]
  rfl

/-- The station once a set has supplied the last angle (R103). -/
def Bench.seen (x : SampleSet) (b : Bench) : Bench := b.setAw { b.st.aw with lastAngle := some x.angle }

theorem Bench.sampleSet_unseen {b : Bench} (none : b.st.aw.lastAngle = none) (x : SampleSet) :
    b.sampleSet x = b.seen x := by
  simp only [Bench.sampleSet, AngleUnit.step, none, Option.map_none, Bench.seen]

section
variable {b : Bench} {l : Half} (last : b.st.aw.lastAngle = some l)
include last

theorem Bench.sampleSet_inactive (inactive : b.st.aw.state = .inactive) (x : SampleSet) :
    b.sampleSet x = b.seen x := by
  simp only [Bench.sampleSet, AngleUnit.step, last, Option.map_some, Bench.setAw_aw, inactive, Bench.seen]

theorem Bench.sampleSet_seeking (seeking : b.st.aw.state = .seeking) (x : SampleSet) :
    b.sampleSet x = (b.seen x).testStart x (x.angle - l).toInt := by
  simp only [Bench.sampleSet, AngleUnit.step, last, Option.map_some, Bench.setAw_aw, seeking, Bench.seen]

theorem Bench.sampleSet_collecting (collecting : b.st.aw.state = .collecting) (x : SampleSet) :
    b.sampleSet x = (b.seen x).collect x (x.angle - l).toInt := by
  simp only [Bench.sampleSet, AngleUnit.step, last, Option.map_some, Bench.setAw_aw, collecting, Bench.seen]

end

end Sys2Proof.Machine
end

section
/-! SUPPORT. Collection and close of an angle window. -/

namespace Sys2Proof.Machine

/-! ### A unit that has moved -/

theorem Bench.voidWindow_setAw {b : Bench} (empty : b.st.todo = []) {a : AngleUnit}
    (collecting : a.state = .collecting) (why : VoidReason) (speed : Option Nat) :
    (b.setAw a).voidWindow why speed =
      (b.setAw (a.voided why speed)).setTodo (b.cutOffDue (a.attempts + 1)) :=
  Bench.voidWindow_eq (b := b.setAw a) empty collecting why speed

theorem Bench.voidWindow_setAw_still (b : Bench) {a : AngleUnit} (still : a.state ≠ .collecting)
    (why : VoidReason) (speed : Option Nat) : (b.setAw a).voidWindow why speed = b.setAw a :=
  Bench.voidWindow_of_not_collecting (b := b.setAw a) still why speed

theorem Bench.raise_setAw {b : Bench} (empty : b.st.todo = []) (a : AngleUnit) (e : StEvent) :
    (b.setAw a).raise e = (b.setAw a).setTodo [.due e] :=
  Bench.raise_of_nil (b := b.setAw a) empty e

/-! ### A set while COLLECTING -/

section
variable {b : Bench} {p : ListenParams} {w : WindowRecord} {pt : Point} (params : b.st.aw.params = some p)
  (window : b.st.aw.window = some w) (point : b.st.point = some pt)
include params window point

theorem Bench.collect_slow (x : SampleSet) (step : Int) (h : 65536 ≤ w.ts + 1) :
    b.collect x step = b.raise .slow := by
  rw [Bench.collect, params, window, point]
  exact if_pos h

/-- A set that is not the one that makes the window SLOW, by its step. -/
theorem Bench.collect_of_lt (x : SampleSet) (step : Int) (h : w.ts + 1 < 65536) : b.collect x step =
    (let c := b.setAw { b.st.aw with window := some { w with ts := w.ts + 1 } }
     if step = 0 then c
     else if w.direction.along step then
       if step.natAbs = 1 then
         if w.k + 1 < p.span then
           c.setAw { c.st.aw with
             window := some { w with
               ts := w.ts + 1, k := w.k + 1
               accums := addAll p (w.k + 1) (x.accel p.channel) pt.lines w.accums } }
         else
           (c.setAw { c.st.aw with window := some { w with ts := w.ts + 1, k := w.k + 1 } }).raise
             (.windowClose x step)
       else c.voidWindow .skipped none
     else c.voidWindow .direction none) := by
  rw [Bench.collect, params, window, point]
  exact if_neg (Nat.not_le.2 h)

theorem Bench.collect_standing (x : SampleSet) (h : w.ts + 1 < 65536) : b.collect x 0 =
    b.setAw { b.st.aw with window := some { w with ts := w.ts + 1 } } := by
  rw [Bench.collect_of_lt params window point x 0 h]
  rfl

theorem Bench.collect_back {x : SampleSet} {step : Int} (h : w.ts + 1 < 65536) (moves : step ≠ 0)
    (back : w.direction.along step = false) : b.collect x step =
      (b.setAw { b.st.aw with window := some { w with ts := w.ts + 1 } }).voidWindow .direction none := by
  rw [Bench.collect_of_lt params window point x step h]
  simp only [moves, if_false, back, Bool.false_eq_true]

theorem Bench.collect_skip {x : SampleSet} {step : Int} (h : w.ts + 1 < 65536)
    (along : w.direction.along step = true) (skips : 2 ≤ step.natAbs) : b.collect x step =
      (b.setAw { b.st.aw with window := some { w with ts := w.ts + 1 } }).voidWindow .skipped none := by
  have moves : step ≠ 0 := by omega
  have more : step.natAbs ≠ 1 := by omega
  rw [Bench.collect_of_lt params window point x step h]
  simp only [moves, if_false, along, if_true, more]

theorem Bench.collect_takes {x : SampleSet} {step : Int} (h : w.ts + 1 < 65536)
    (along : w.direction.along step = true) (one : step.natAbs = 1) (more : w.k + 1 < p.e * p.n) :
    b.collect x step = b.setAw { b.st.aw with
      window := some { w with
        ts := w.ts + 1, k := w.k + 1
        accums := addAll p (w.k + 1) (x.accel p.channel) pt.lines w.accums } } := by
  have moves : step ≠ 0 := by omega
  have inside : w.k + 1 < p.span := more
  rw [Bench.collect_of_lt params window point x step h]
  simp only [moves, if_false, along, if_true, one, inside]
  rfl

theorem Bench.collect_closes {x : SampleSet} {step : Int} (h : w.ts + 1 < 65536)
    (along : w.direction.along step = true) (one : step.natAbs = 1) (full : p.e * p.n ≤ w.k + 1) :
    b.collect x step = (b.setAw { b.st.aw with
      window := some { w with ts := w.ts + 1, k := w.k + 1 } }).raise (.windowClose x step) := by
  have moves : step ≠ 0 := by omega
  have last : ¬ w.k + 1 < p.span := Nat.not_lt.2 full
  rw [Bench.collect_of_lt params window point x step h]
  simp only [moves, if_false, along, if_true, one, last]
  rfl

end

/-! ### The close of a window -/

theorem Bench.offSpeed_iff (b : Bench) (v : Nat) : b.offSpeed v = true ↔
    (b.st.dc.params.map Params.band).getD 0 < ((v : Int) - (b.st.dc.formed.natAbs : Int)).natAbs :=
  decide_eq_true_iff

section
variable {b : Bench} {p : ListenParams} {w : WindowRecord} {pt : Point} (params : b.st.aw.params = some p)
  (window : b.st.aw.window = some w) (point : b.st.point = some pt)
include params window point

/-- A window that closes off its speed (R108). -/
theorem Bench.windowClose_off {x : SampleSet} {d : Int} (collecting : b.st.aw.state = .collecting)
    (off : b.offSpeed (windowSpeed p.n w.ts) = true) : b.windowClose x d =
      (let c := b.setAw (b.st.aw.voided .speed (some (windowSpeed p.n w.ts)))
       if c.exhausted then c.raise .listenCutOff else c.testStart x d) := by
  simp only [Bench.windowClose, params, window, point, off, if_true,
    Bench.voidWindow_of_collecting collecting, Bench.testCutOff]
  split
  next out => exact if_pos out
  · rfl

/-- A window that closes within its band of speed (R108, R123, R125). -/
theorem Bench.windowClose_valid {x : SampleSet} {d : Int} (valid : ¬ b.offSpeed (windowSpeed p.n w.ts) = true) :
    b.windowClose x d =
      (let c := b.handOver w p pt (windowSpeed p.n w.ts)
       if c.pointSettled then c.finishPoint
       else if c.exhausted then c.raise .listenCutOff else c.testStart x d) := by
  simp only [Bench.windowClose, params, window, point, if_neg valid]

end

/-! ### The obligation -/

theorem Direction.along_iff (d : Direction) (step : Int) :
    d.along step = true ↔ if d = .up then 0 < step else step < 0 := by
  cases d <;> simp [Direction.along]

/-- The accumulators once a set has been taken as x[k] (R118). -/
theorem addAll_eq (p : ListenParams) (k : Nat) (v : Int) (ls : List PointLine) (as : List Accum) :
    addAll p k v ls as = List.zipWith (fun l s => if l.computed = true then
      ⟨s.c + v * tableAt p (l.order * k), s.s + v * tableAt p (l.order * k + 3 * p.e / 4)⟩ else s) ls as :=
  addAll_eq_zipWith p k v ls as

/-- Settles O42: each unit state and each step of a set, and the close by the window's speed. -/
theorem windowCloseJudgesTheWindow : Obligations.WindowCloseJudgesTheWindow := by
  refine ⟨fun b => ⟨b.pointSettled_iff, b.exhausted_iff, fun x l seeking last =>
    Bench.sampleSet_seeking last seeking x⟩, ?_, ?_⟩
  · rintro b _ empty rfl
    refine ⟨fun collecting => ⟨?_, ?_, ?_⟩, fun still => ⟨?_, ?_, ?_⟩, fun x => ⟨fun h => ?_, fun l last => ?_⟩⟩
    · exact Bench.voidWindow_setAw empty (a := { b.st.aw with lastAngle := none }) collecting .gap none
    · exact Bench.voidWindow_eq empty collecting .gap none
    · show b.steadyTest = _
      unfold Bench.steadyTest
      exact if_congr Iff.rfl rfl (Bench.voidWindow_eq empty collecting .unsteady none)
    · exact b.voidWindow_setAw_still (a := { b.st.aw with lastAngle := none }) still .gap none
    · exact Bench.voidWindow_of_not_collecting still .gap none
    · show b.steadyTest = b
      rw [Bench.steadyTest, Bench.voidWindow_of_not_collecting still, ite_self]
    · show b.sampleSet x = b.seen x
      cases last : b.st.aw.lastAngle with
      | none => exact Bench.sampleSet_unseen last x
      | some l => exact Bench.sampleSet_inactive last (h.resolve_left (by simp [last])) x
    · have value : ∀ p : ListenParams, x.accel p.channel = _ := fun p => rfl
      refine ⟨fun seeking rests => ?_, fun p pt params point => ⟨fun seeking starts => ?_,
        fun w collecting window => ⟨fun slow => ?_, fun quick => ⟨fun standing => ?_, fun moves back => ?_,
          fun along skips => ?_, fun along one more => ?_, fun along one full => ?_⟩⟩⟩⟩
      · exact (Bench.sampleSet_seeking last seeking x).trans
          (Bench.testStart_rests (b := b.seen x) rests x)
      · refine (Bench.sampleSet_seeking last seeking x).trans
          ((Bench.testStart_starts (b := b.seen x) seeking starts params point x).trans ?_)
        rw [startedWindow, addAll_clear]
        rfl
      · refine (Bench.sampleSet_collecting last collecting x).trans
          ((Bench.collect_slow (b := b.seen x) params window point x _ slow).trans ?_)
        exact Bench.raise_of_nil (b := b.seen x) empty .slow
      · refine (Bench.sampleSet_collecting last collecting x).trans ?_
        rw [standing]
        exact Bench.collect_standing (b := b.seen x) params window point x quick
      · refine (Bench.sampleSet_collecting last collecting x).trans
          ((Bench.collect_back (b := b.seen x) params window point quick moves ?_).trans ?_)
        · exact Bool.eq_false_iff.2 (mt (Direction.along_iff _ _).1 back)
        · exact Bench.voidWindow_setAw (b := b.seen x) empty (by exact collecting) .direction none
      · refine (Bench.sampleSet_collecting last collecting x).trans
          ((Bench.collect_skip (b := b.seen x) params window point quick
            ((Direction.along_iff _ _).2 along) skips).trans ?_)
        exact Bench.voidWindow_setAw (b := b.seen x) empty (by exact collecting) .skipped none
      · refine (Bench.sampleSet_collecting last collecting x).trans
          ((Bench.collect_takes (b := b.seen x) params window point quick
            ((Direction.along_iff _ _).2 along) one more).trans ?_)
        rw [addAll_eq]
        rfl
      · refine (Bench.sampleSet_collecting last collecting x).trans
          ((Bench.collect_closes (b := b.seen x) params window point quick
            ((Direction.along_iff _ _).2 along) one full).trans ?_)
        exact Bench.raise_setAw (b := b.seen x) empty _ _
  · intro s i rest x d w p pt due collecting window params point
    refine ⟨fun fast => ?_, fun slow => ?_⟩
    · have off : (s.desk i).offSpeed (windowSpeed p.n w.ts) = true := (Bench.offSpeed_iff _ _).2 fast
      refine leaves_of_due due ((Bench.windowClose_off (b := s.desk i) params window point collecting
        off).trans ?_)
      have voided : (s.desk i).st.aw.voided .speed (some (windowSpeed p.n w.ts)) =
          { (s.stations.get i).aw with
            state := .seeking, attempts := (s.stations.get i).aw.attempts + 1
            voids := (s.stations.get i).aw.voids + 1
            window := some { w with
              state := .void, reason := some .speed, speed := some (windowSpeed p.n w.ts), accums := [] } } := by
        show (s.stations.get i).aw.voided _ _ = _
        rw [AngleUnit.voided, window]
        rfl
      rw [voided]
      rfl
    · have valid : ¬ (s.desk i).offSpeed (windowSpeed p.n w.ts) = true := mt (Bench.offSpeed_iff _ _).1 slow
      exact leaves_of_due due (Bench.windowClose_valid (b := s.desk i) params window point valid)

end Sys2Proof.Machine
end

section
/-! SUPPORT. The leak unit. -/

namespace Sys2Proof.Machine

/-! ### The phases -/

theorem Activity.enter_of_old {a : Activity} (old : a.mark = .old) (p : LeakPhase) :
    a.enter p = { a with phase := p, timer := 0, mark := .entered } := by
  rw [Activity.enter, old]
  rfl

section
variable {b : Bench} {a : Activity} (active : b.st.lu = some a)
include active

theorem Bench.fill_eq : b.fill = (b.setLu (some (a.enter .fill))).voidWindow .hiss none := by
  rw [Bench.fill, active]

theorem Bench.settlePhase_eq :
    b.settlePhase = b.setLu (some { a.enter .settle with fillTime := some a.timer }) := by
  rw [Bench.settlePhase, active]

theorem Bench.measure_eq : b.measure = b.setLu (some { a.enter .measure with
    measureEntry := some a.clock, ambient := some b.cell.ambient, block := none }) := by
  rw [Bench.measure, active]

theorem Bench.startBlock_eq {k : Block} (block : a.block = some k) : b.startBlock =
    b.setLu (some { a with bStart := some (k.value a.params.averaging, k.first), block := none }) := by
  simp only [Bench.startBlock, active, block]

theorem Bench.leakDone_eq : b.leakDone = b.setLu (some (a.enter .done)) := by
  rw [Bench.leakDone, active]

end

theorem Bench.testCutOff_parts (b : Bench) : b.testCutOff.st.lu = b.st.lu ∧ b.testCutOff.st.aw = b.st.aw := by
  unfold Bench.testCutOff
  split <;> exact ⟨rfl, rfl⟩

theorem Bench.voidWindow_lu (b : Bench) (why : VoidReason) (v : Option Nat) :
    (b.voidWindow why v).st.lu = b.st.lu := by
  unfold Bench.voidWindow
  split
  · exact (Bench.testCutOff_parts _).1
  · rfl

theorem Bench.voidWindow_aw {b : Bench} (collecting : b.st.aw.state = .collecting) (why : VoidReason)
    (v : Option Nat) : (b.voidWindow why v).st.aw = b.st.aw.voided why v := by
  rw [Bench.voidWindow_of_collecting collecting]
  exact (Bench.testCutOff_parts _).2

/-- Settles O45: each phase entered, and the start block fixed. -/
theorem leakPhasesAreEntered : Obligations.LeakPhasesAreEntered := by
  intro s i rest a active old
  refine ⟨fun due => ⟨_, leaves_of_due due (Bench.fill_eq (b := s.desk i) active), ?_, fun still => ?_,
      fun collecting => ?_⟩,
    fun due => leaves_of_due due ((Bench.settlePhase_eq (b := s.desk i) active).trans ?_),
    fun due => leaves_of_due due ((Bench.measure_eq (b := s.desk i) active).trans ?_),
    fun k due block => leaves_of_due due (Bench.startBlock_eq (b := s.desk i) active block)⟩
  · rw [Bench.voidWindow_lu, Activity.enter_of_old old]
    rfl
  · rw [Bench.voidWindow_of_not_collecting (by exact still)]
    rfl
  · exact Bench.voidWindow_aw (b := (s.desk i).setLu (some (a.enter .fill))) collecting .hiss none
  · rw [Activity.enter_of_old old]
  · rw [Activity.enter_of_old old]
    rfl

/-! ### The result -/

/-- A result that is fixed: the defect and the leak result reach the record of the station that owns the
activity (R145). -/
theorem Bench.fixLeak_owned {b : Bench} {a : Activity} (active : b.st.lu = some a)
    (before : ¬ (a.phase = .vent ∨ a.phase = .done)) (own : a.owner = b.st.sc.recordId) (o : LeakOutcome)
    (why : Option LeakReason) : b.fixLeak o why none =
      (b.setLu (some (a.fix o why))).setStore
        (b.store.onOpen a.owner (Record.placeLeak ((a.fix o why).leakResult o))) ∧
    ∀ d, b.fixLeak o why (some d) = (b.setLu (some (a.fix o why))).setStore
      ((b.store.onOpen a.owner (Record.addDefect d b.st.sc.executed)).onOpen a.owner
        (Record.placeLeak ((a.fix o why).leakResult o))) := by
  have earlier := LeakPhase.beforeVent_iff.2 before
  refine ⟨?_, fun d => ?_⟩
  · simp only [Bench.fixLeak, active, if_pos earlier, Bench.leakDefect]
    exact if_pos own
  · simp only [Bench.fixLeak, active, if_pos earlier, Bench.leakDefect]
    rw [if_pos (by exact own)]
    exact if_pos own

theorem Bench.fixLeak_strange {b : Bench} {a : Activity} (active : b.st.lu = some a)
    (before : ¬ (a.phase = .vent ∨ a.phase = .done)) (strange : a.owner ≠ b.st.sc.recordId) (o : LeakOutcome)
    (why : Option LeakReason) (c : Option DefectCode) :
    b.fixLeak o why c = b.setLu (some (a.fix o why)) := by
  have earlier := LeakPhase.beforeVent_iff.2 before
  simp only [Bench.fixLeak, active, if_pos earlier, Bench.leakDefect]
  cases c with
  | none => exact if_neg strange
  | some d =>
    dsimp only
    rw [if_neg (c := a.owner = (b.setLu (some (a.fix o why))).st.sc.recordId) strange]
    exact if_neg strange

theorem Bench.fixLeak_later {b : Bench} {a : Activity} (active : b.st.lu = some a)
    (later : a.phase = .vent ∨ a.phase = .done) (o : LeakOutcome) (why : Option LeakReason)
    (c : Option DefectCode) : b.fixLeak o why c = b :=
  Bench.fixLeak_of_fixed o why c active
    (Bool.eq_false_iff.2 fun before => LeakPhase.beforeVent_iff.1 before later)

theorem Activity.fix_of_other {a : Activity} (h : a.phase ≠ .fill) (o : LeakOutcome)
    (why : Option LeakReason) : (a.fix o why).fillTime = a.fillTime := if_neg fun ⟨fill, _⟩ => h fill

/-! ### The work of a cycle -/

theorem Bench.leakWork_of_none {b : Bench} (none : b.st.lu = none) : b.leakWork = b := by
  rw [Bench.leakWork, none]

section
variable {b : Bench} {a : Activity} (active : b.st.lu = some a)
include active

theorem Bench.leakWork_rests (h : a.phase = .done ∨ a.mark = .started) : b.leakWork = b := by
  simp only [Bench.leakWork, active]
  split
  · rfl
  next going => rw [h.resolve_left going]

theorem Bench.leakWork_entered (going : a.phase ≠ .done) (entered : a.mark = .entered) :
    b.leakWork = b.setLu (some { a with clock := tick a.clock }) := by
  simp only [Bench.leakWork, active, if_neg going, entered]

theorem Bench.leakWork_old (going : a.phase ≠ .done) (old : a.mark = .old) : b.leakWork =
    (b.setLu (some { a with clock := tick a.clock, timer := tick a.timer })).workPhase
      { a with clock := tick a.clock, timer := tick a.timer } := by
  simp only [Bench.leakWork, active, if_neg going, old]

end

/-- A step that falls due of two in order, or none. -/
theorem Bench.raise_choice {b : Bench} (empty : b.st.todo = []) {p q : Prop} [Decidable p] [Decidable q]
    (e e' : StEvent) : (if p then b.raise e else if q then b.raise e' else b) =
      b.setTodo (if p then [.due e] else if q then [.due e'] else []) := by
  split
  · exact Bench.raise_of_nil empty e
  · split
    · exact Bench.raise_of_nil empty e'
    · rw [← empty]
      rfl

theorem Bench.raise_when {b : Bench} (empty : b.st.todo = []) {p : Prop} [Decidable p] (e : StEvent) :
    (if p then b.raise e else b) = b.setTodo (if p then [.due e] else []) := by
  split
  · exact Bench.raise_of_nil empty e
  · rw [← empty]
    rfl

theorem Bench.workFillWait_eq {b : Bench} (empty : b.st.todo = []) (a : Activity) : b.workFillWait a =
    b.setTodo (if b.supplyOk = true then [.due .fill]
      else if b.cell.supplyWait ≤ a.timer then [.due .supplyWaitLimit] else []) :=
  Bench.raise_choice empty .fill .supplyWaitLimit

theorem Bench.workSettle_eq {b : Bench} (empty : b.st.todo = []) (a : Activity) : b.workSettle a =
    b.setTodo (if a.params.settle ≤ a.timer then [.due .measure] else []) :=
  Bench.raise_when empty .measure

theorem Bench.workFill_reached {b : Bench} (empty : b.st.todo = []) {a : Activity}
    (h : ∃ p, b.process.slots.housing = .fresh p ∧ (a.params.fillTarget : Int) ≤ p) :
    b.workFill a = b.setTodo [.due .settle] := by
  obtain ⟨p, housing, reached⟩ := h
  simp only [Bench.workFill, housing, Reading.freshValue, if_pos reached]
  exact Bench.raise_of_nil empty _

theorem Bench.workFill_below {b : Bench} (empty : b.st.todo = []) {a : Activity}
    (h : ∀ p, b.process.slots.housing = .fresh p → p < (a.params.fillTarget : Int)) : b.workFill a =
      b.setTodo (if a.params.fillTimeout ≤ a.timer then [.due .grossLeak] else []) := by
  unfold Bench.workFill
  cases housing : b.process.slots.housing with
  | fresh p =>
    simp only [Reading.freshValue, if_neg (Int.not_le.2 (h p housing))]
    exact Bench.raise_when empty .grossLeak
  | held p => exact Bench.raise_when empty .grossLeak
  | noValue => exact Bench.raise_when empty .grossLeak

theorem Bench.workVent_reached {b : Bench} (empty : b.st.todo = []) {a : Activity}
    (h : ∃ p, b.process.slots.housing = .fresh p ∧ p ≤ (a.params.ventThreshold : Int)) :
    b.workVent a = b.setTodo [.due .ventDone] := by
  obtain ⟨p, housing, reached⟩ := h
  simp only [Bench.workVent, housing, Reading.freshValue, if_pos reached]
  exact Bench.raise_of_nil empty _

theorem Bench.workVent_above {b : Bench} (empty : b.st.todo = []) {a : Activity}
    (h : ∀ p, b.process.slots.housing = .fresh p → (a.params.ventThreshold : Int) < p) : b.workVent a =
      b.setTodo (if a.params.ventTimeout ≤ a.timer then [.due .ventTimeout] else []) := by
  unfold Bench.workVent
  cases housing : b.process.slots.housing with
  | fresh p =>
    simp only [Reading.freshValue, if_neg (Int.not_le.2 (h p housing))]
    exact Bench.raise_when empty .ventTimeout
  | held p => exact Bench.raise_when empty .ventTimeout
  | noValue => exact Bench.raise_when empty .ventTimeout

/-- The work of an activity whose phase was entered before this event, phase by phase (R135). -/
theorem Bench.leakWork_phase {b : Bench} {a : Activity} (active : b.st.lu = some a) (old : a.mark = .old)
    {p : LeakPhase} (phase : a.phase = p) (going : p ≠ .done) : b.leakWork =
      (b.setLu (some { a with clock := tick a.clock, timer := tick a.timer })).workPhase
        { a with phase := p, clock := tick a.clock, timer := tick a.timer } := by
  subst phase
  exact Bench.leakWork_old active going old

/-! ### The obligation O47 -/

/-- Settles O47: what a fixed result leaves, the work before MEASURE, and the three unfinished ends. -/
theorem unfinishedLeakTestsVent : Obligations.UnfinishedLeakTestsVent := by
  refine ⟨fun b a o why c => ⟨fun none => Bench.fixLeak_of_none none o why c,
      fun active later => Bench.fixLeak_later active later o why c, fun active vent done => ?_⟩,
    fun b empty => ⟨Bench.leakWork_of_none, fun a active => ⟨Bench.leakWork_rests active,
      Bench.leakWork_entered active, fun old phase => ?_, fun old phase => ⟨fun reached => ?_, fun below => ?_⟩,
      fun old phase => ?_⟩⟩,
    fun s i rest a active own => ⟨fun due phase => ⟨_, leaves_of_due due rfl, ?_⟩,
      fun due phase => ⟨_, leaves_of_due due rfl, ?_⟩, fun due phase => ⟨_, leaves_of_due due rfl, ?_⟩,
      fun o why => rfl⟩⟩
  · have before : ¬ (a.phase = .vent ∨ a.phase = .done) := not_or.2 ⟨vent, done⟩
    by_cases own : a.owner = b.st.sc.recordId
    · obtain ⟨none, some⟩ := Bench.fixLeak_owned active before own o why
      rw [if_pos own]
      cases c with
      | none => exact none
      | some d => exact some d
    · rw [if_neg own]
      exact Bench.fixLeak_strange active before own o why c
  · exact (Bench.leakWork_phase active old phase (by decide)).trans (Bench.workFillWait_eq (by exact empty) _)
  · exact (Bench.leakWork_phase active old phase (by decide)).trans
      (Bench.workFill_reached (by exact empty) reached)
  · exact (Bench.leakWork_phase active old phase (by decide)).trans
      (Bench.workFill_below (by exact empty) below)
  · exact (Bench.leakWork_phase active old phase (by decide)).trans (Bench.workSettle_eq (by exact empty) _)
  · have fixed := (Bench.fixLeak_owned (b := s.desk i) active (by simp [phase]) own .notJudged
      (some .airShort)).2 .leakNotJudged
    have fill : (a.fix .notJudged (some .airShort)).fillTime = a.fillTime :=
      Activity.fix_of_other (by simp [phase]) _ _
    rw [Bench.perform, Bench.supplyWaitLimit, fixed, Activity.leakResult, fill]
    exact ⟨rfl, rfl⟩
  · have gross : (s.desk i).grossLeak = ((s.desk i).setLu (some { a with
        fillTime := some a.params.fillTimeout })).fixLeak .fail (some .grossLeak) (some .grossLeak) := by
      have here : (s.desk i).st.lu = some a := active
      rw [Bench.grossLeak, here]
    have fixed := (Bench.fixLeak_owned (b := (s.desk i).setLu (some { a with
      fillTime := some a.params.fillTimeout })) rfl (by simp [phase]) own .fail (some .grossLeak)).2 .grossLeak
    have fill : ({ a with fillTime := some a.params.fillTimeout }.fix .fail (some .grossLeak)).fillTime =
        some a.params.fillTimeout := if_neg fun ⟨_, h⟩ => (nomatch h)
    rw [Bench.perform, gross, fixed, Activity.leakResult, fill]
    exact ⟨rfl, rfl⟩
  · have fixed := (Bench.fixLeak_owned (b := s.desk i) active (by simp [phase]) own .notJudged
      (some .disturbed)).2 .leakNotJudged
    have fill : (a.fix .notJudged (some .disturbed)).fillTime = a.fillTime :=
      Activity.fix_of_other (by simp [phase]) _ _
    rw [Bench.perform, Bench.disturbed, fixed, Activity.leakResult, fill]
    exact ⟨rfl, rfl⟩

end Sys2Proof.Machine
end

section
/-! SUPPORT. The vent that ends, and the blocks of MEASURE. -/

namespace Sys2Proof.Machine

/-! ### DONE -/

theorem Bench.tellLeakDone_waiting {b : Bench} {g : Segment} (running : b.st.sc.state = .running)
    (segment : b.st.sc.segment = some g) (kind : g.body.kind = .leakWait) :
    b.tellLeakDone = b.segmentOver g .done := by
  simp only [Bench.tellLeakDone, running, Bench.inKind_of_running running segment, kind, decide_true, if_true]
  exact Bench.endSegment_eq running segment .done

theorem Bench.tellLeakDone_working {b : Bench} {g : Segment} (running : b.st.sc.state = .running)
    (segment : b.st.sc.segment = some g) (kind : g.body.kind ≠ .leakWait) : b.tellLeakDone = b := by
  simp only [Bench.tellLeakDone, running, Bench.inKind_of_running running segment, kind, decide_false,
    if_false, Bool.false_eq_true]

theorem Bench.tellLeakDone_finishing {b : Bench} (finishing : b.st.sc.state = .finishing) :
    b.tellLeakDone = b.closeRecord false := by
  simp only [Bench.tellLeakDone, finishing]

theorem Bench.tellLeakDone_stopping {b : Bench} (stopping : b.st.sc.state = .stopping) :
    b.tellLeakDone = if b.stopped then b.closeRecord false else b := by
  simp only [Bench.tellLeakDone, stopping]

theorem Bench.tellLeakDone_still {b : Bench} (h : b.st.sc.state = .held ∨ b.st.sc.state = .idle) :
    b.tellLeakDone = b := by
  obtain held | idle := h
  · simp only [Bench.tellLeakDone, held]
  · simp only [Bench.tellLeakDone, idle]

theorem Bench.leakDefect_of_some (b : Bench) (owner : Nat) (c : DefectCode) : b.leakDefect owner (some c) =
    if owner = b.st.sc.recordId then b.recordDefect c else b := by
  by_cases own : owner = b.st.sc.recordId
  · rw [Bench.leakDefect, if_pos own, if_pos own, own]
    rfl
  · rw [Bench.leakDefect, if_neg own, if_neg own]

theorem Bench.ventDone_eq {b : Bench} {a : Activity} (active : b.st.lu = some a) :
    b.ventDone = (b.setLu (some (a.enter .done))).tellLeakDone := by
  rw [Bench.ventDone, Bench.leakDone_eq active]

theorem Bench.ventTimeout_eq {b : Bench} {a : Activity} (active : b.st.lu = some a) : b.ventTimeout =
    ((if a.owner = b.st.sc.recordId then b.recordDefect .ventTimeout else b).setLu
      (some (a.enter .done))).tellLeakDone := by
  simp only [Bench.ventTimeout, active, Bench.leakDefect_of_some]
  rw [Bench.leakDone_eq]
  split <;> exact active

/-- Settles O48: the work of VENT, the two ends of a vent, and what DONE does in each state. -/
theorem ventsEndInDone : Obligations.VentsEndInDone := by
  refine ⟨fun b => ?_, fun b a empty active old phase => ⟨fun reached => ?_, fun above => ?_⟩,
    fun b g running segment kind => Bench.tellLeakDone_working running segment kind,
    fun s i rest a b active => ⟨?_, ?_, ⟨rfl, rfl, rfl⟩,
      fun g running segment kind => Bench.tellLeakDone_waiting running segment kind,
      Bench.tellLeakDone_finishing, Bench.tellLeakDone_stopping, Bench.tellLeakDone_still⟩⟩
  · rw [b.stopped_iff, Bench.Standing]
    tauto
  · exact (Bench.leakWork_phase active old phase (by decide)).trans
      (Bench.workVent_reached (by exact empty) reached)
  · exact (Bench.leakWork_phase active old phase (by decide)).trans
      (Bench.workVent_above (by exact empty) above)
  · rintro ⟨due, rfl⟩
    exact leaves_of_due due (Bench.ventDone_eq (b := s.desk i) active)
  · rintro ⟨due, rfl⟩
    exact leaves_of_due due (Bench.ventTimeout_eq (b := s.desk i) active)

/-! ### Blocks -/

/-- The normalised pressure of a cycle that counts (R140, R143). -/
def Bench.judgedPressure (ambient : Nat) (b : Bench) : Option Nat :=
  match b.process.slots.housing, b.process.slots.airTemp with
  | .fresh p, .fresh t =>
    if headSynced b.heads b.setup.processHead = true ∧ b.process.absent = false ∧
      b.process.signalled = false ∧ 0 ≤ p ∧ p ≤ 400000 ∧ -4000 ≤ t ∧ t ≤ 15000 ∧
      b.st.dc.steady = true
    then some (((p.toNat + ambient) * 29315 + (t + 27315).toNat / 2) / (t + 27315).toNat)
    else none
  | _, _ => none

theorem Bench.eligible_eq (b : Bench) (ambient : Nat) : b.eligible ambient = b.judgedPressure ambient := by
  unfold Bench.eligible Bench.judgedPressure
  cases b.process.slots.housing with
  | fresh p => cases b.process.slots.airTemp <;> rfl
  | held p => rfl
  | noValue => rfl

theorem blockFull_iff {block : Option Block} {n : Nat} :
    blockFull block n = true ↔ ∃ k, block = some k ∧ n ≤ k.count := by
  cases block <;> simp [blockFull]

/-- The work on a block: it is full, or the hold limit runs out, or it goes on (R141, R142). -/
def Bench.blockWork (last : Nat) (e : StEvent) (a : Activity) (b : Bench) : Bench :=
  let block := nextBlock a.block a.clock (b.judgedPressure (a.ambient.getD 0))
  let c := b.setLu (some { a with block := block })
  if blockFull block a.params.averaging then c.raise e
  else if last + a.params.averaging + a.params.holdLimit ≤ a.clock then c.raise .disturbed else c

theorem Bench.workStart_eq (b : Bench) (a : Activity) :
    b.workStart a = b.blockWork (a.measureEntry.getD 0) .startBlock a := by
  rw [Bench.workStart, Bench.eligible_eq]
  rfl

theorem Bench.workEnd_early {b : Bench} {a : Activity} {first : Nat}
    (early : a.clock < first + a.params.measure) : b.workEnd first a = b := if_pos early

theorem Bench.workEnd_late {b : Bench} {a : Activity} {first : Nat}
    (late : first + a.params.measure ≤ a.clock) :
    b.workEnd first a = b.blockWork (first + a.params.measure) .endBlock a := by
  rw [Bench.workEnd, if_neg (Nat.not_lt.2 late), Bench.eligible_eq]
  rfl

theorem Bench.blockWork_full {b : Bench} (empty : b.st.todo = []) {a : Activity} (last : Nat) (e : StEvent)
    (full : ∃ k, nextBlock a.block a.clock (b.judgedPressure (a.ambient.getD 0)) = some k ∧
      a.params.averaging ≤ k.count) : b.blockWork last e a =
    (b.setLu (some { a with
      block := nextBlock a.block a.clock (b.judgedPressure (a.ambient.getD 0)) })).setTodo [.due e] := by
  rw [Bench.blockWork, if_pos (blockFull_iff.2 full), Bench.raise_of_nil]
  exact empty

theorem Bench.blockWork_short {b : Bench} (empty : b.st.todo = []) {a : Activity} (last : Nat) (e : StEvent)
    (short : ¬ ∃ k, nextBlock a.block a.clock (b.judgedPressure (a.ambient.getD 0)) = some k ∧
      a.params.averaging ≤ k.count) : b.blockWork last e a =
    (b.setLu (some { a with
      block := nextBlock a.block a.clock (b.judgedPressure (a.ambient.getD 0)) })).setTodo
      (if last + a.params.averaging + a.params.holdLimit ≤ a.clock then [.due .disturbed] else []) := by
  rw [Bench.blockWork, if_neg (mt blockFull_iff.1 short), Bench.raise_when]
  exact empty

/-- The work of MEASURE on its start block and on its end block. -/
theorem Bench.leakWork_start {b : Bench} {a : Activity} (active : b.st.lu = some a) (old : a.mark = .old)
    (phase : a.phase = .measure) (start : a.bStart = none) : b.leakWork =
      (b.setLu (some { a with clock := tick a.clock, timer := tick a.timer })).blockWork
        (a.measureEntry.getD 0) .startBlock { a with clock := tick a.clock, timer := tick a.timer } := by
  rw [Bench.leakWork_old active (by simp [phase]) old]
  simp only [Bench.workPhase, phase, start]
  exact Bench.workStart_eq _ _

theorem Bench.leakWork_end {b : Bench} {a : Activity} (active : b.st.lu = some a) (old : a.mark = .old)
    (phase : a.phase = .measure) {bs first : Nat} (start : a.bStart = some (bs, first)) : b.leakWork =
      (b.setLu (some { a with clock := tick a.clock, timer := tick a.timer })).workEnd first
        { a with clock := tick a.clock, timer := tick a.timer } := by
  rw [Bench.leakWork_old active (by simp [phase]) old]
  simp only [Bench.workPhase, phase, start]

/-! ### The judgement -/

theorem LeakRate.passes_iff (r : LeakRate) (limit : Nat) :
    r.passes limit = true ↔ r.sat = false ∧ r.q ≤ limit := by
  simp [LeakRate.passes]

/-- The activity with its computation (R142, R144). -/
def Activity.judged (k : Block) (bs first : Nat) (a : Activity) : Activity :=
  { a with computed := some {
      bEnd := k.value a.params.averaging, t := k.first - first
      rate := leakRate bs (k.value a.params.averaging) a.volume (k.first - first) } }

theorem Bench.endBlock_eq {b : Bench} {a : Activity} (active : b.st.lu = some a) {k : Block}
    (block : a.block = some k) {bs first : Nat} (start : a.bStart = some (bs, first)) : b.endBlock =
      if (leakRate bs (k.value a.params.averaging) a.volume (k.first - first)).passes a.leakLimit = true
      then (b.setLu (some (a.judged k bs first))).fixLeak .pass none none
      else (b.setLu (some (a.judged k bs first))).fixLeak .fail (some .leakRate) (some .leakRate) := by
  simp only [Bench.endBlock, active]
  split
  next k' bs' first' hk hs =>
    obtain rfl : k = k' := Option.some.inj (block.symm.trans hk)
    obtain ⟨rfl, rfl⟩ := Prod.mk.inj (Option.some.inj (start.symm.trans hs))
    rfl
  next no => exact absurd start (no k bs first block)

/-- The activity once its end block has been judged. -/
theorem Activity.judged_fix {a : Activity} (phase : a.phase = .measure) {k : Block} {bs first : Nat}
    (start : a.bStart = some (bs, first)) (o : LeakOutcome) (why : Option LeakReason) :
    ((a.judged k bs first).fix o why).fillTime = a.fillTime ∧
    ((a.judged k bs first).fix o why).leakResult o = ⟨o, why, a.fillTime, some bs,
      (a.judged k bs first).computed⟩ := by
  have fill : ((a.judged k bs first).fix o why).fillTime = a.fillTime :=
    Activity.fix_of_other (a := a.judged k bs first) (by simp [Activity.judged, phase]) o why
  refine ⟨fill, ?_⟩
  rw [Activity.leakResult, fill]
  exact congrArg (LeakResult.mk o why a.fillTime · (a.judged k bs first).computed)
    (congrArg (Option.map Prod.fst) start)

/-- Settles O46: the work of MEASURE by its block, and the judgement of the end block. -/
theorem endBlockJudgesTheLeak : Obligations.EndBlockJudgesTheLeak := by
  refine ⟨fun b a empty active old phase => ⟨fun start => ⟨fun full => ?_, fun short => ?_⟩,
    fun bs first start => ⟨fun early => ?_, fun late => ⟨fun full => ?_, fun short => ?_⟩⟩⟩, ?_⟩
  · exact (Bench.leakWork_start active old phase start).trans
      (Bench.blockWork_full (by exact empty) _ _ full)
  · exact (Bench.leakWork_start active old phase start).trans
      (Bench.blockWork_short (by exact empty) _ _ short)
  · exact (Bench.leakWork_end active old phase start).trans (Bench.workEnd_early early)
  · exact (Bench.leakWork_end active old phase start).trans
      ((Bench.workEnd_late late).trans (Bench.blockWork_full (by exact empty) _ _ full))
  · exact (Bench.leakWork_end active old phase start).trans
      ((Bench.workEnd_late late).trans (Bench.blockWork_short (by exact empty) _ _ short))
  · intro s i rest a k bs first due active phase block start
    have judged := Bench.endBlock_eq (b := s.desk i) active block start
    have before : ¬ ((a.judged k bs first).phase = .vent ∨ (a.judged k bs first).phase = .done) := by
      simp [Activity.judged, phase]
    intro be t q rate passing
    have passes : (leakRate bs (k.value a.params.averaging) a.volume (k.first - first)).passes a.leakLimit = true
        ↔ passing := LeakRate.passes_iff _ _
    by_cases pass : passing
    · obtain ⟨fill, result⟩ := Activity.judged_fix phase (k := k) start .pass none
      rw [if_pos (passes.2 pass)] at judged
      simp only [if_pos pass]
      by_cases own : a.owner = (s.stations.get i).sc.recordId
      · have fixed := (Bench.fixLeak_owned (b := (s.desk i).setLu (some (a.judged k bs first))) rfl before
          own .pass none).1
        rw [result] at fixed
        exact ⟨_, _, leaves_of_due due (judged.trans fixed), rfl, rfl, rfl, rfl, rfl, fill, rfl, rfl,
          ⟨fun _ => rfl, fun h => absurd own h⟩, rfl, rfl, rfl⟩
      · have fixed := Bench.fixLeak_strange (b := (s.desk i).setLu (some (a.judged k bs first))) rfl before
          own .pass none none
        exact ⟨_, _, leaves_of_due due (judged.trans fixed), rfl, rfl, rfl, rfl, rfl, fill, rfl, rfl,
          ⟨fun h => absurd h own, fun _ => rfl⟩, rfl, rfl, rfl⟩
    · obtain ⟨fill, result⟩ := Activity.judged_fix phase (k := k) start .fail (some .leakRate)
      rw [if_neg (mt passes.1 pass)] at judged
      simp only [if_neg pass]
      by_cases own : a.owner = (s.stations.get i).sc.recordId
      · have fixed := (Bench.fixLeak_owned (b := (s.desk i).setLu (some (a.judged k bs first))) rfl before
          own .fail (some .leakRate)).2 .leakRate
        rw [result] at fixed
        exact ⟨_, _, leaves_of_due due (judged.trans fixed), rfl, rfl, rfl, rfl, rfl, fill, rfl, rfl,
          ⟨fun _ => rfl, fun h => absurd own h⟩, rfl, rfl, rfl⟩
      · have fixed := Bench.fixLeak_strange (b := (s.desk i).setLu (some (a.judged k bs first))) rfl before
          own .fail (some .leakRate) (some .leakRate)
        exact ⟨_, _, leaves_of_due due (judged.trans fixed), rfl, rfl, rfl, rfl, rfl, fill, rfl, rfl,
          ⟨fun h => absurd h own, fun _ => rfl⟩, rfl, rfl, rfl⟩

end Sys2Proof.Machine
end

section
/-! SUPPORT. Steps 2 and 3 of drive control's work. -/

namespace Sys2Proof.Machine

theorem Bench.followed_coast {b : Bench} (stopping : b.st.sc.state = .stopping)
    (kind : b.st.sc.stopKind = some .coast) :
    b.followed = { b.st.dc with enable := false, torqueLimit := 0 } := by
  unfold Bench.followed Bench.follow
  rw [stopping, kind]
  rfl

theorem Bench.followed_braking {b : Bench} (stopping : b.st.sc.state = .stopping)
    (kind : b.st.sc.stopKind ≠ some .coast) :
    b.followed = { b.st.dc with enable := true, torqueLimit := b.setup.maxTorque } := by
  unfold Bench.followed Bench.follow
  rw [stopping]
  generalize b.st.sc.stopKind = k at kind ⊢
  cases k with
  | none => rfl
  | some k =>
    cases k with
    | controlled => rfl
    | coast => exact absurd rfl kind

/-- The drive as steps 2 and 3 form it, before enable and torque limit follow the state (R86 to R89, R94). -/
def Bench.stepped (b : Bench) : Drive :=
  { b.st.dc with
    setpoint := b.newSetpoint
    formed := b.target
    clamped := b.st.dc.clamped
      || (decide (b.st.sc.state = .running) && b.figured && decide (b.target ≠ b.rawTarget))
    reached := b.st.dc.reached
      || (b.st.sc.state.driving && decide (b.newSetpoint = b.target))
    dwell := b.newDwell
    steady := b.steadyNow }

theorem Bench.form_eq {b : Bench} (busy : b.st.sc.state ≠ .idle) :
    b.form = b.setDc (b.setDc b.stepped).followed := by
  rw [Bench.form, if_neg busy, Bench.follow_eq]
  rfl

/-- Enable and torque limit alone follow the state. -/
theorem Bench.form_dc {b : Bench} (busy : b.st.sc.state ≠ .idle) : b.form.st.dc = { b.stepped with
    enable := (b.setDc b.stepped).followed.enable
    torqueLimit := (b.setDc b.stepped).followed.torqueLimit } := by
  rw [Bench.form_eq busy, Bench.setDc_dc]
  exact Bench.followed_keeps _

theorem StState.driving_eq_true_iff {x : StState} (busy : x ≠ .idle) : x.driving = true ↔ x ≠ .stopping := by
  cases x <;> simp [StState.driving] at busy ⊢

/-- Enable and torque limit of a station that is not IDLE (R88). -/
theorem Bench.stepped_limits {b : Bench} (busy : b.st.sc.state ≠ .idle) :
    (b.st.sc.state ≠ .stopping → (b.setDc b.stepped).followed.enable = true ∧
      (b.setDc b.stepped).followed.torqueLimit = driveLimit b.st.dc.torqueCheck b.setup.maxTorque) ∧
    (¬ b.st.sc.state ≠ .stopping → b.st.sc.stopKind = some .coast →
      (b.setDc b.stepped).followed.enable = false ∧ (b.setDc b.stepped).followed.torqueLimit = 0) ∧
    (¬ b.st.sc.state ≠ .stopping → b.st.sc.stopKind ≠ some .coast →
      (b.setDc b.stepped).followed.enable = true ∧
      (b.setDc b.stepped).followed.torqueLimit = b.setup.maxTorque) := by
  refine ⟨fun going => ?_, fun stopping kind => ?_, fun stopping kind => ?_⟩
  · rw [Bench.followed_driving (b := b.setDc b.stepped) ((StState.driving_eq_true_iff busy).2 going)]
    exact ⟨rfl, rfl⟩
  · rw [Bench.followed_coast (b := b.setDc b.stepped) (not_not.1 stopping) kind]
    exact ⟨rfl, rfl⟩
  · rw [Bench.followed_braking (b := b.setDc b.stepped) (not_not.1 stopping) kind]
    exact ⟨rfl, rfl⟩

/-- The marks of the drive as formed (R89, R90, R101). -/
theorem Bench.stepped_marks {b : Bench} (busy : b.st.sc.state ≠ .idle) :
    (b.stepped.reached = true ↔ b.st.dc.reached = true ∨
      (b.st.sc.state ≠ .stopping ∧ b.newSetpoint = b.target)) ∧
    (b.stepped.clamped = true ↔ b.st.dc.clamped = true ∨
      (b.st.sc.state = .running ∧ 1 ≤ b.st.sc.segTimer ∧ b.target ≠ b.rawTarget)) ∧
    (b.stepped.steady = true ↔ b.st.sc.state ≠ .stopping ∧ b.newSetpoint = b.st.dc.setpoint ∧
      b.newSetpoint = b.target ∧ ∃ v, b.speed = .fresh v ∧ (v - b.newSetpoint).natAbs ≤ b.st.dc.band) := by
  rw [← StState.driving_eq_true_iff busy]
  refine ⟨?_, ?_, ?_⟩
  · simp [Bench.stepped]
  · simp [Bench.stepped, Bench.figured, and_assoc, Nat.one_le_iff_ne_zero, Nat.pos_iff_ne_zero]
  · unfold Bench.stepped Bench.steadyNow
    cases b.speed <;> simp [Reading.freshValue, and_assoc]

theorem Bench.newDwell_of_dwell {b : Bench} {g : Segment} (segment : b.st.sc.segment = some g)
    (kind : g.body.kind = .dwell) :
    b.newDwell = if b.st.dc.reached = true then min 10000000 (b.st.dc.dwell + 1) else 0 := by
  obtain ⟨pause, body⟩ := g
  cases body with
  | dwell => simp only [Bench.newDwell, segment]; rfl
  | _ => cases kind

theorem Bench.newDwell_of_other {b : Bench} (h : ∀ g, b.st.sc.segment = some g → g.body.kind ≠ .dwell) :
    b.newDwell = b.st.dc.dwell := by
  unfold Bench.newDwell
  split
  next segment => exact absurd rfl (h _ segment)
  · rfl

/-! ### The setpoint -/

theorem clampTo_of_le {v : Nat} {x : Int} (h : x.natAbs ≤ v) : clampTo v x = x := by
  unfold clampTo
  omega

theorem stepToward_le {v q : Nat} {s t : Int} (hs : s.natAbs ≤ v) (ht : t.natAbs ≤ v) :
    (stepToward s t q).natAbs ≤ v := by
  unfold stepToward
  split
  · exact ht
  · split <;> omega

theorem Bench.newSetpoint_coast {b : Bench} (stopping : b.st.sc.state = .stopping)
    (kind : b.st.sc.stopKind = some .coast) : b.newSetpoint = 0 := if_pos ⟨kind, stopping⟩

theorem Bench.newSetpoint_moves {b : Bench} (h : ¬ (b.st.sc.state = .stopping ∧ b.st.sc.stopKind = some .coast))
    (inside : b.st.dc.setpoint.natAbs ≤ b.vmax) :
    b.newSetpoint = stepToward b.st.dc.setpoint b.target b.rate := by
  rw [Bench.newSetpoint, if_neg fun ⟨kind, stopping⟩ => h ⟨stopping, kind⟩]
  exact clampTo_of_le (stepToward_le inside (clampTo_natAbs_le _ _))

theorem stepToward_near {s t : Int} {q : Nat} (h : (t - s).natAbs ≤ q) : stepToward s t q = t := if_pos h

theorem stepToward_far {s t : Int} {q : Nat} (h : q < (t - s).natAbs) :
    stepToward s t q = if s < t then s + q else s - q := if_neg (Nat.not_le.2 h)

/-- Settles O50: steps 2 and 3 field by field, and the setpoint by target and rate. -/
theorem setpointMovesByTheRate : Obligations.SetpointMovesByTheRate := by
  refine ⟨fun b idle => if_pos idle, fun b busy => ⟨rfl, ?_⟩, fun b busy => ?_⟩
  · obtain ⟨going, coast, braking⟩ := Bench.stepped_limits busy
    obtain ⟨reached, clamped, steady⟩ := Bench.stepped_marks busy
    have parts : b.form.st.sc = b.st.sc ∧ b.form.store = b.store ∧ b.form.st.todo = b.st.todo := by
      rw [Bench.form_eq busy]
      exact ⟨rfl, rfl, rfl⟩
    obtain ⟨sc, store, todo⟩ := parts
    rw [Bench.form_dc busy]
    exact ⟨rfl, sc, store, todo, rfl, rfl, rfl, rfl, rfl, going, coast, braking, reached, clamped, steady,
      fun ⟨g, segment, kind⟩ => Bench.newDwell_of_dwell segment kind, Bench.newDwell_of_other⟩
  · rw [Bench.form_dc busy]
    refine ⟨b.newSetpoint_le, rfl, Bench.newSetpoint_coast, fun free inside => ?_⟩
    have moves := Bench.newSetpoint_moves free inside
    exact ⟨fun near => moves.trans (stepToward_near near), fun far => moves.trans (stepToward_far far)⟩

end Sys2Proof.Machine
end

section
/-! SUPPORT. The point of a LISTEN that finishes, and the entries of a record. -/

namespace Sys2Proof.Machine

/-! ### The entries, one by one -/

theorem Store.onOpen_eq_map (t : Store) (id : Nat) (f : Record → Record) : t.onOpen id f = { t with
    slots := t.slots.map fun o => o.map fun q => if q.id = id ∧ q.closed = false then f q else q } := by
  rw [Store.onOpen, mapOpen_eq]
  refine congrArg (fun slots => { t with slots := slots }) (List.map_congr_left fun o _ => ?_)
  cases o with
  | none => rfl
  | some q =>
    unfold openSlot
    dsimp only [Option.map_some]
    split <;> rfl

theorem hasDefect_iff {ds : List DefectEntry} {c : DefectCode} :
    hasDefect ds c = true ↔ ∃ d ∈ ds, d.code = c := by
  simp [hasDefect]

theorem Record.addDefect_known {c : DefectCode} {q : Record} (n : Nat) (known : ∃ d ∈ q.defects, d.code = c) :
    (q.addDefect c n).defectsTruncated = q.defectsTruncated ∧ (q.addDefect c n).defects =
      q.defects.map fun d => if d.code = c then { d with count := min 255 (d.count + 1) } else d := by
  rw [Record.addDefect, if_pos (hasDefect_iff.2 known)]
  exact ⟨rfl, rfl⟩

theorem Record.addDefect_room {c : DefectCode} {q : Record} (n : Nat) (new : ∀ d ∈ q.defects, d.code ≠ c)
    (room : q.defects.length < 8) : (q.addDefect c n).defectsTruncated = q.defectsTruncated ∧
      (q.addDefect c n).defects = q.defects ++ [⟨c, n, 1⟩] := by
  rw [Record.addDefect, if_neg (mt hasDefect_iff.1 fun ⟨d, mem, same⟩ => new d mem same),
    if_pos (show _ < Config.maxDefects from room)]
  exact ⟨rfl, rfl⟩

theorem Record.addDefect_full {c : DefectCode} {q : Record} (n : Nat) (new : ∀ d ∈ q.defects, d.code ≠ c)
    (full : 8 ≤ q.defects.length) : (q.addDefect c n).defectsTruncated = true ∧
      (q.addDefect c n).defects = q.defects := by
  rw [Record.addDefect, if_neg (mt hasDefect_iff.1 fun ⟨d, mem, same⟩ => new d mem same),
    if_neg (show ¬ _ < Config.maxDefects from Nat.not_lt.2 full)]
  exact ⟨rfl, rfl⟩

theorem Record.addDefect_rest (c : DefectCode) (n : Nat) (q : Record) : q.addDefect c n = { q with
    basis := (q.addDefect c n).basis, defects := (q.addDefect c n).defects
    defectsTruncated := (q.addDefect c n).defectsTruncated } := by
  unfold Record.addDefect
  split
  · rfl
  · split <;> rfl

/-- The marks a defect sets, by its class (R156). -/
theorem Basis.defect_marks (m : Basis) (c : DefectCode) :
    ((m.defect c).fail = true ↔ m.fail = true ∨ c ∈ [DefectCode.speedNotReached, .speedDeviation,
      .torqueLimit, .noiseOrder, .grossLeak, .leakRate, .leakBusy]) ∧
    ((m.defect c).gap = true ↔
      m.gap = true ∨ c ∈ [DefectCode.noiseNotJudged, .orderRange, .leakNotJudged]) ∧
    ((m.defect c).process = true ↔ m.process = true ∨ c ∈ [DefectCode.ventTimeout, .stopTimeout]) ∧
    ((m.defect c).fault = true ↔ m.fault = true ∨ c ∈ [DefectCode.noRecipe, .recursion, .chainDepth,
      .noLimits, .noAngle, .runaway]) ∧
    ((m.defect c).safety = true ↔
      m.safety = true ∨ c ∈ [DefectCode.overspeed, .overtorque, .feedbackLost]) := by
  cases c <;> simp [Basis.defect, DefectCode.cls]

/-- The two marks that a result sets (R156). -/
theorem Basis.segment_marks (m : Basis) (o : SegOutcome) :
    ((m.segment o).fail = true ↔ m.fail = true ∨ o = .failed) ∧
    ((m.segment o).gap = true ↔ m.gap = true ∨ o = .notJudged) ∧
    m.segment o = { m with fail := (m.segment o).fail, gap := (m.segment o).gap } := by
  cases o <;> simp [Basis.segment]

theorem Basis.order_marks (m : Basis) (o : OrderVerdict) :
    ((m.order o).fail = true ↔ m.fail = true ∨ o = .fail) ∧
    ((m.order o).gap = true ↔ m.gap = true ∨ o = .notJudged) ∧
    m.order o = { m with fail := (m.order o).fail, gap := (m.order o).gap } := by
  cases o <;> simp [Basis.order]

theorem Basis.leak_marks (m : Basis) (o : LeakOutcome) :
    ((m.leak o).fail = true ↔ m.fail = true ∨ o = .fail) ∧
    ((m.leak o).gap = true ↔ m.gap = true ∨ o = .notJudged) ∧
    m.leak o = { m with fail := (m.leak o).fail, gap := (m.leak o).gap } := by
  cases o <;> simp [Basis.leak]

/-- The record with its marks replaced. -/
def Record.mark (m : Basis) (q : Record) : Record := { q with basis := m }

theorem Record.addSegment_eq (x : SegResult) (q : Record) : q.addSegment x =
    Record.mark (q.basis.segment x.outcome) (if q.segs.length < 64 then { q with segs := q.segs ++ [x] }
      else { q with segsTruncated := true }) := by
  unfold Record.addSegment
  split
  next room => rw [if_pos (show _ < 64 from room)]; rfl
  next full => rw [if_neg (show ¬ _ < 64 from full)]; rfl

theorem Record.addOrder_eq (x : OrderResult) (q : Record) : q.addOrder x =
    Record.mark (q.basis.order x.verdict) (if q.orders.length < 32 then { q with orders := q.orders ++ [x] }
      else { q with ordersTruncated := true }) := by
  unfold Record.addOrder
  split
  next room => rw [if_pos (show _ < 32 from room)]; rfl
  next full => rw [if_neg (show ¬ _ < 32 from full)]; rfl

/-! ### The end of a point -/

theorem PointLine.cutOff_verdict (l : PointLine) :
    l.cutOff.verdict = if l.verdict = .undecided then .notJudged else l.verdict := by
  unfold PointLine.cutOff
  split <;> rfl

theorem PointLine.cutOff_rest (l : PointLine) :
    l.cutOff = { l with verdict := if l.verdict = .undecided then .notJudged else l.verdict } := by
  unfold PointLine.cutOff
  split <;> rfl

theorem PointLine.cutOff_fail (l : PointLine) : l.cutOff.verdict = .fail ↔ l.verdict = .fail := by
  rw [PointLine.cutOff_verdict]
  cases l.verdict <;> simp

theorem PointLine.cutOff_notJudged (l : PointLine) :
    l.cutOff.verdict = .notJudged ↔ l.verdict = .notJudged ∨ l.verdict = .undecided := by
  rw [PointLine.cutOff_verdict]
  cases l.verdict <;> simp

/-- The outcome of a LISTEN whose point has been cut off (R128). -/
theorem Point.outcome_cutOff (p : Point) : p.cutOff.outcome =
    if ∃ l ∈ p.lines, l.verdict = .fail then SegOutcome.failed
    else if ∃ l ∈ p.lines, l.verdict = .notJudged ∨ l.verdict = .undecided then .notJudged else .done := by
  unfold Point.outcome Point.cutOff
  refine if_congr ?_ rfl (if_congr ?_ rfl rfl)
  · simp [PointLine.cutOff_fail]
  · simp [PointLine.cutOff_notJudged]

theorem Bench.writePoint_eq {b : Bench} {p : Point} (point : b.st.point = some p) :
    b.writePoint = (b.setStore b.writePoint.store).setPoint (some p.cutOff) := by
  simp only [Bench.writePoint, point]
  rfl

theorem Bench.finishPoint_eq {b : Bench} {g : Segment} {p : Point} (running : b.st.sc.state = .running)
    (segment : b.st.sc.segment = some g) (kind : g.body.kind = .listen) (point : b.st.point = some p) :
    b.finishPoint = b.writePoint.segmentOver g p.cutOff.outcome := by
  rw [Bench.finishPoint, Bench.inKind_of_running running segment, if_pos (decide_eq_true kind)]
  have outcome : b.writePoint.pointOutcome = p.cutOff.outcome := by
    rw [Bench.writePoint_eq point]
    rfl
  dsimp only
  rw [outcome]
  exact Bench.endSegment_eq (by rw [Bench.writePoint_sc, running]) (by rw [Bench.writePoint_sc, segment]) _

/-! ### What a finished point writes -/

/-- The entry of a line's defect (R127). -/
def PointLine.defectEntry (n : Nat) (l : PointLine) : Record → Record :=
  match l.defect with
  | some c => Record.addDefect c n
  | none => id

/-- What a finished point writes into the record: every order result, then every defect (R127). -/
def Point.entries (p : Point) (voids : Nat) (q : Record) : Record :=
  p.lines.foldl (fun r l => l.defectEntry p.ordinal r)
    (p.lines.foldl (fun r l => r.addOrder (l.result p voids)) q)

theorem PointLine.defectEntry_keepsIdentity (n : Nat) (l : PointLine) :
    KeepsIdentity (l.defectEntry n) := by
  unfold PointLine.defectEntry
  split
  · exact addDefect_keepsIdentity _ _
  · exact keepsIdentity_id

theorem KeepsIdentity.foldl {α : Type} {f : α → Record → Record} (hf : ∀ x, KeepsIdentity (f x))
    (xs : List α) : KeepsIdentity fun q => xs.foldl (fun r x => f x r) q := by
  induction xs with
  | nil => exact keepsIdentity_id
  | cons x xs ih => exact ih.comp (hf x)

/-- Entries one after another are one entry of them all. -/
theorem Store.foldl_onOpen {α : Type} {f : α → Record → Record} (hf : ∀ x, KeepsIdentity (f x))
    (xs : List α) (t : Store) (id : Nat) : xs.foldl (fun u x => u.onOpen id (f x)) t =
      t.onOpen id fun q => xs.foldl (fun r x => f x r) q := by
  induction xs generalizing t with
  | nil => exact (Store.onOpen_self t id).symm
  | cons x xs ih =>
    rw [List.foldl_cons, ih, Store.onOpen_onOpen t id (hf x)]
    rfl

theorem Bench.writePoint_store {b : Bench} {p : Point} (point : b.st.point = some p) :
    b.writePoint.store = b.store.onOpen b.st.sc.recordId (p.cutOff.entries b.st.aw.voids) := by
  have defects : ∀ t : Store, p.cutOff.lines.foldl (fun u l => match l.defect with
      | some c => u.onOpen b.st.sc.recordId (Record.addDefect c p.cutOff.ordinal)
      | none => u) t = p.cutOff.lines.foldl
        (fun u l => u.onOpen b.st.sc.recordId (l.defectEntry p.cutOff.ordinal)) t := fun t => by
    refine List.foldl_ext _ _ t fun u l _ => ?_
    unfold PointLine.defectEntry
    cases l.defect with
    | some c => rfl
    | none => exact (Store.onOpen_self u _).symm
  have orders : ∀ t : Store, p.cutOff.lines.foldl (fun u l => u.onOpen b.st.sc.recordId
      (Record.addOrder (l.result p.cutOff b.st.aw.voids))) t = t.onOpen b.st.sc.recordId fun q =>
        p.cutOff.lines.foldl (fun r l => r.addOrder (l.result p.cutOff b.st.aw.voids)) q := fun t =>
    Store.foldl_onOpen (f := fun l => Record.addOrder (PointLine.result p.cutOff b.st.aw.voids l))
      (fun l => addOrder_keepsIdentity _) _ _ _
  simp only [Bench.writePoint, point, Bench.setPoint_store, Bench.setStore_store]
  refine (defects _).trans ?_
  rw [Store.foldl_onOpen (fun l => l.defectEntry_keepsIdentity _), orders,
    Store.onOpen_onOpen _ _ (.foldl (f := fun l => Record.addOrder (PointLine.result p.cutOff b.st.aw.voids l))
      (fun l => addOrder_keepsIdentity _) _)]
  rfl

end Sys2Proof.Machine
end

section
/-! SUPPORT. The entries of a finished point, in its record. -/

namespace Sys2Proof.Machine

/-! ### Entries one after another -/

theorem foldl_keeps {α β γ : Type} {f : β → α → β} {g : β → γ} (same : ∀ r x, g (f r x) = g r) (xs : List α)
    (r : β) : g (xs.foldl f r) = g r := by
  induction xs generalizing r with
  | nil => rfl
  | cons x xs ih => exact (ih _).trans (same r x)

/-- A mark that an entry sets by a condition is set by a list of entries where one of them meets it. -/
theorem foldl_mark {α β : Type} {f : β → α → β} {g : β → Bool} {P : α → Prop}
    (sets : ∀ r x, g (f r x) = true ↔ g r = true ∨ P x) (xs : List α) (r : β) :
    g (xs.foldl f r) = true ↔ g r = true ∨ ∃ x ∈ xs, P x := by
  induction xs generalizing r with
  | nil => simp
  | cons x xs ih =>
    rw [List.foldl_cons, ih, sets, List.exists_mem_cons_iff, or_assoc]

theorem Record.addOrder_orders (x : OrderResult) (q : Record) :
    (q.addOrder x).orders = if q.orders.length < 32 then q.orders ++ [x] else q.orders := by
  rw [Record.addOrder_eq]
  split <;> rfl

/-- Order results are stored up to 32 (R158). -/
theorem foldl_addOrder_orders {α : Type} (f : α → OrderResult) (xs : List α) (q : Record) :
    (xs.foldl (fun r x => r.addOrder (f x)) q).orders =
      (q.orders ++ xs.map f).take (max 32 q.orders.length) := by
  induction xs generalizing q with
  | nil => rw [List.map_nil, List.append_nil, List.take_of_length_le (le_max_right _ _)]; rfl
  | cons x xs ih =>
    rw [List.foldl_cons, ih, Record.addOrder_orders, List.map_cons]
    split
    next room =>
      have short : max 32 (q.orders ++ [f x]).length = max 32 q.orders.length := by
        rw [List.length_append, List.length_singleton]
        omega
      rw [short, List.append_assoc, List.singleton_append]
    next full =>
      have long : max 32 q.orders.length = q.orders.length := by omega
      rw [long, List.take_left, List.take_left]

theorem Record.addOrder_keeps (x : OrderResult) (q : Record) :
    (q.addOrder x).defects = q.defects ∧ (q.addOrder x).defectsTruncated = q.defectsTruncated := by
  rw [Record.addOrder_eq]
  split <;> exact ⟨rfl, rfl⟩

theorem PointLine.defectEntry_orders (n : Nat) (l : PointLine) (q : Record) :
    (l.defectEntry n q).orders = q.orders := by
  unfold PointLine.defectEntry
  cases l.defect with
  | none => rfl
  | some c =>
    dsimp only
    rw [Record.addDefect_rest]

theorem foldl_addDefect_congr (cs : List DefectCode) (n : Nat) {q q' : Record} (defects : q'.defects = q.defects)
    (truncated : q'.defectsTruncated = q.defectsTruncated) :
    (cs.foldl (fun r c => r.addDefect c n) q').defects = (cs.foldl (fun r c => r.addDefect c n) q).defects := by
  induction cs generalizing q q' with
  | nil => exact defects
  | cons c cs ih =>
    obtain ⟨same, same'⟩ := Record.addDefect_congr c n defects truncated
    exact ih same same'

/-- The entries of the lines' defects are those of the list of their codes. -/
theorem foldl_defectEntry (ls : List PointLine) (n : Nat) (q : Record) :
    ls.foldl (fun r l => l.defectEntry n r) q =
      (ls.filterMap PointLine.defect).foldl (fun r c => r.addDefect c n) q := by
  rw [List.foldl_filterMap]
  refine List.foldl_ext _ _ q fun r l _ => ?_
  unfold PointLine.defectEntry
  cases l.defect <;> rfl

/-! ### The defect of a line -/

/-- The code that a line records at the end of its point (R127). -/
theorem PointLine.defect_cutOff (l : PointLine) : l.cutOff.defect =
    if l.verdict = .fail then some DefectCode.noiseOrder
    else if l.verdict = .pass then none
    else if l.computed = true then some .noiseNotJudged else some .orderRange := by
  rw [PointLine.cutOff_rest, PointLine.defect]
  cases l.verdict <;> simp

theorem PointLine.defect_fail (l : PointLine) : (∃ c, l.cutOff.defect = some c ∧
    c ∈ [DefectCode.speedNotReached, .speedDeviation, .torqueLimit, .noiseOrder, .grossLeak, .leakRate,
      .leakBusy]) ↔ l.verdict = .fail := by
  rw [PointLine.defect_cutOff]
  cases l.verdict <;> cases l.computed <;> simp

theorem PointLine.defect_gap (l : PointLine) : (∃ c, l.cutOff.defect = some c ∧
    c ∈ [DefectCode.noiseNotJudged, .orderRange, .leakNotJudged]) ↔
      l.verdict = .notJudged ∨ l.verdict = .undecided := by
  rw [PointLine.defect_cutOff]
  cases l.verdict <;> cases l.computed <;> simp

/-! ### All entries of a point -/

theorem Point.entries_orders (p : Point) (voids : Nat) (q : Record) : (p.entries voids q).orders =
    (q.orders ++ p.lines.map fun l => l.result p voids).take (max 32 q.orders.length) := by
  rw [Point.entries, foldl_keeps (g := Record.orders) (fun r l => l.defectEntry_orders p.ordinal r),
    foldl_addOrder_orders]

theorem Point.entries_defects (p : Point) (voids : Nat) (q : Record) : (p.entries voids q).defects =
    ((p.lines.filterMap PointLine.defect).foldl (fun r c => r.addDefect c p.ordinal) q).defects := by
  rw [Point.entries, foldl_defectEntry]
  exact foldl_addDefect_congr _ _
    (foldl_keeps (g := Record.defects) (fun r l => (r.addOrder_keeps _).1) _ _)
    (foldl_keeps (g := Record.defectsTruncated) (fun r l => (r.addOrder_keeps _).2) _ _)

theorem Record.addOrder_marks (x : OrderResult) (q : Record) :
    ((q.addOrder x).basis.fail = true ↔ q.basis.fail = true ∨ x.verdict = .fail) ∧
    ((q.addOrder x).basis.gap = true ↔ q.basis.gap = true ∨ x.verdict = .notJudged) := by
  obtain ⟨fail, gap, -⟩ := q.basis.order_marks x.verdict
  rw [Record.addOrder_eq]
  exact ⟨fail, gap⟩

theorem Point.entries_fail (p : Point) (voids : Nat) (q : Record) :
    ((p.entries voids q).basis.fail = true ↔ (q.basis.fail = true ∨ ∃ l ∈ p.lines, l.verdict = .fail) ∨
      ∃ c ∈ p.lines.filterMap PointLine.defect, c ∈ [DefectCode.speedNotReached, .speedDeviation,
        .torqueLimit, .noiseOrder, .grossLeak, .leakRate, .leakBusy]) := by
  rw [Point.entries, foldl_defectEntry,
    foldl_mark (g := fun r : Record => r.basis.fail) (fun r c => by
      rw [Record.addDefect_basis]; exact (r.basis.defect_marks c).1),
    foldl_mark (f := fun r l => Record.addOrder (PointLine.result p voids l) r)
      (g := fun r : Record => r.basis.fail) (fun r l => (r.addOrder_marks _).1)]
  rfl

theorem Point.entries_gap (p : Point) (voids : Nat) (q : Record) :
    ((p.entries voids q).basis.gap = true ↔
      (q.basis.gap = true ∨ ∃ l ∈ p.lines, l.verdict = .notJudged) ∨
      ∃ c ∈ p.lines.filterMap PointLine.defect,
        c ∈ [DefectCode.noiseNotJudged, .orderRange, .leakNotJudged]) := by
  rw [Point.entries, foldl_defectEntry,
    foldl_mark (g := fun r : Record => r.basis.gap) (fun r c => by
      rw [Record.addDefect_basis]; exact (r.basis.defect_marks c).2.1),
    foldl_mark (f := fun r l => Record.addOrder (PointLine.result p voids l) r)
      (g := fun r : Record => r.basis.gap) (fun r l => (r.addOrder_marks _).2)]
  rfl

/-- A mark found on the lines cut off and on their codes is found on the lines. -/
theorem exists_cutOff_iff (ls : List PointLine) {P : PointLine → Prop} {Q : DefectCode → Prop}
    {R : PointLine → Prop} (verdict : ∀ l : PointLine, P l.cutOff ↔ R l)
    (code : ∀ l : PointLine, (∃ c, l.cutOff.defect = some c ∧ Q c) ↔ R l) :
    ((∃ l ∈ ls.map PointLine.cutOff, P l) ∨ ∃ c ∈ (ls.map PointLine.cutOff).filterMap PointLine.defect, Q c) ↔
      ∃ l ∈ ls, R l := by
  constructor
  · rintro (⟨l, mem, h⟩ | ⟨c, mem, h⟩)
    · obtain ⟨l', mem', rfl⟩ := List.mem_map.1 mem
      exact ⟨l', mem', (verdict l').1 h⟩
    · obtain ⟨l, mem', same⟩ := List.mem_filterMap.1 mem
      obtain ⟨l', mem'', rfl⟩ := List.mem_map.1 mem'
      exact ⟨l', mem'', (code l').1 ⟨c, same, h⟩⟩
  · rintro ⟨l, mem, h⟩
    exact .inl ⟨l.cutOff, List.mem_map_of_mem mem, (verdict l).2 h⟩

/-- Settles O44: the end of a point, the entries of a record, and what a finished point writes. -/
theorem pointIsFinished : Obligations.PointIsFinished := by
  refine ⟨Store.onOpen_eq_map, fun b g p running segment kind point => ⟨?_, Bench.writePoint_eq point⟩,
    fun c n q => ⟨Record.addDefect_known n, Record.addDefect_room n, Record.addDefect_full n, ?_⟩,
    fun q => ⟨fun x => ?_, fun x => ?_, fun x => ?_⟩, fun s i rest g p ⟨running, segment⟩ kind point =>
      ⟨fun due => ?_, fun due => ?_, _, rfl, fun k q here own isOpen => ?_⟩⟩
  · rw [Bench.finishPoint_eq running segment kind point, Point.outcome_cutOff]
  · obtain ⟨fail, gap, process, fault, safety⟩ := q.basis.defect_marks c
    rw [Record.addDefect_basis]
    refine ⟨fail, gap, process, fault, safety, ?_⟩
    rw [← Record.addDefect_basis c n]
    exact q.addDefect_rest c n
  · obtain ⟨fail, gap, rest⟩ := q.basis.segment_marks x.outcome
    rw [Record.addSegment_eq]
    exact ⟨fail, gap, congrArg (fun m => Record.mark m _) rest⟩
  · obtain ⟨fail, gap, rest⟩ := q.basis.order_marks x.verdict
    rw [Record.addOrder_eq]
    exact ⟨fail, gap, congrArg (fun m => Record.mark m _) rest⟩
  · obtain ⟨fail, gap, rest⟩ := q.basis.leak_marks x.outcome
    exact ⟨fail, gap, congrArg (fun m => Record.mark m { q with leak := some x }) rest⟩
  · rw [← Point.outcome_cutOff]
    exact leaves_of_due due (Bench.finishPoint_eq (b := s.desk i) running segment kind point)
  · rw [← Point.outcome_cutOff]
    exact leaves_of_due due (Bench.finishPoint_eq (b := s.desk i) running segment kind point)
  · have written := Bench.writePoint_store (b := s.desk i) point
    have entered := Store.onOpen_at_self here isOpen (p.cutOff.entries (s.stations.get i).aw.voids)
    rw [own] at entered
    have there : (s.desk i).writePoint.store.At k (p.cutOff.entries (s.stations.get i).aw.voids q) := by
      rw [written]
      exact entered
    refine ⟨_, there, ?_, ?_, ?_, ?_⟩
    · rw [Point.entries_orders, Point.cutOff, List.map_map]
      simp only [Function.comp_def, PointLine.result, PointLine.cutOff_rest]
    · rw [Point.entries_defects, Point.cutOff, List.filterMap_map]
      simp only [Function.comp_def, PointLine.defect_cutOff]
    · rw [Point.entries_fail, or_assoc]
      exact or_congr_right
        (exists_cutOff_iff p.lines PointLine.cutOff_fail PointLine.defect_fail)
    · rw [Point.entries_gap, or_assoc]
      exact or_congr_right
        (exists_cutOff_iff p.lines PointLine.cutOff_notJudged PointLine.defect_gap)

end Sys2Proof.Machine
end

section
/-! SUPPORT. What a segment reached comes to: flow segments, the taking up and the beginning of a working one. -/

namespace Sys2Proof.Machine

/-! ### The tables and the chain -/

theorem Bench.topRecipe_eq (b : Bench) :
    b.topRecipe = ((b.st.sc.chain.map ChainEntry.recipe).head?).getD 0 := by
  unfold Bench.topRecipe
  cases b.st.sc.chain <;> rfl

theorem Library.segment_eq (l : Library) (r k : Nat) :
    l.segment r k = (entryAt l.recipes r).bind fun e => e.segments[k]? := by
  unfold Library.segment
  cases entryAt l.recipes r <;> rfl

theorem Library.stopOnFail_eq (l : Library) (r : Nat) :
    l.stopOnFail r = ((entryAt l.recipes r).map Recipe.stopOnFail).getD false := by
  unfold Library.stopOnFail
  cases entryAt l.recipes r <;> rfl

theorem Library.stopOnFail_of_entry {l : Library} {r : Nat} {e : Recipe} (there : entryAt l.recipes r = some e) :
    l.stopOnFail r = e.stopOnFail := by rw [Library.stopOnFail_eq, there]; rfl

theorem Bench.leakBusy_iff (b : Bench) : b.leakBusy = true ↔ ∃ a, b.st.lu = some a ∧ a.phase ≠ .done := by
  rw [Bench.leakBusy, ← Bool.not_eq_false, inProgress_eq_false_iff]
  push Not
  rfl

/-! ### Flow segments -/

section
variable {b : Bench} {r k : Nat} {e : Recipe}

theorem Bench.call_of_absent (absent : entryAt b.lib.recipes r = none) :
    b.call r k = .halt (b.faultTest .noRecipe) := if_pos (by rw [absent]; rfl)

theorem Bench.call_of_there (there : entryAt b.lib.recipes r = some e) : b.call r k =
    if r ∈ b.st.sc.chain.map ChainEntry.recipe then .halt (b.faultTest .recursion)
    else if 4 ≤ b.st.sc.chain.length then .halt (b.faultTest .chainDepth)
    else .reach 0 ((b.setLib (b.lib.useRecipe r)).setSc { b.st.sc with
      chain := ⟨r, some (k + 1)⟩ :: b.st.sc.chain, stopOnFail := e.stopOnFail }) := by
  simp only [Bench.call, there, Library.stopOnFail_of_entry there, Option.isNone_some, Bool.false_eq_true,
    if_false, Config.chainDepth, chainHolds, List.any_eq_true, decide_eq_true_eq, List.mem_map]

theorem Bench.chainTo_of_absent (absent : entryAt b.lib.recipes r = none) :
    b.chainTo r = .halt (b.faultTest .noRecipe) := if_pos (by rw [absent]; rfl)

theorem Bench.chainTo_of_there {top : ChainEntry} {below : List ChainEntry}
    (there : entryAt b.lib.recipes r = some e) (chain : b.st.sc.chain = top :: below) : b.chainTo r =
    if r ∈ below.map ChainEntry.recipe then .halt (b.faultTest .recursion)
    else .reach 0 ((b.setLib (if r = top.recipe then b.lib
      else (b.lib.dropRecipe top.recipe).useRecipe r)).setSc { b.st.sc with
        chain := ⟨r, top.ret⟩ :: below, stopOnFail := e.stopOnFail }) := by
  simp only [Bench.chainTo, there, chain, Library.stopOnFail_of_entry there, Option.isNone_some,
    Bool.false_eq_true, if_false, chainHolds, List.any_eq_true, decide_eq_true_eq, List.mem_map,
    List.tail_cons, eq_comm (a := top.recipe)]

theorem Bench.finish_of_below {top next : ChainEntry} {below : List ChainEntry}
    (chain : b.st.sc.chain = top :: next :: below) : b.finish =
      .reach (top.ret.getD 0) ((b.setLib (b.lib.dropRecipe top.recipe)).setSc { b.st.sc with
        chain := next :: below, stopOnFail := b.lib.stopOnFail next.recipe }) := by
  simp only [Bench.finish, chain]

theorem Bench.finish_of_last {top : ChainEntry} (chain : b.st.sc.chain = [top]) : b.finish =
    .halt (((b.setLib (b.lib.dropRecipe top.recipe)).setSc { b.st.sc with chain := [] }).endOfTest) := by
  simp only [Bench.finish, chain]

end

theorem Bench.reachOne_of_call {b : Bench} {g : Segment} {k r : Nat}
    (segment : b.lib.segment b.topRecipe k = some g) (body : g.body = .call r) : b.reachOne k = b.call r k := by
  simp only [Bench.reachOne, segment, body]

theorem Bench.reachOne_of_chain {b : Bench} {g : Segment} {k r : Nat}
    (segment : b.lib.segment b.topRecipe k = some g) (body : g.body = .chain r) : b.reachOne k = b.chainTo r := by
  simp only [Bench.reachOne, segment, body]

theorem Bench.reachOne_of_finish {b : Bench} {g : Segment} {k : Nat}
    (segment : b.lib.segment b.topRecipe k = some g) (body : g.body = .finish) : b.reachOne k = b.finish := by
  simp only [Bench.reachOne, segment, body]

/-- The segment reached is counted, and what it leads to is carried to its end. -/
theorem advance_counted {b : Bench} (few : b.st.sc.executed < 255) (k : Nat) :
    advance 257 k b = (b.countSegment.reachOne k).run := by
  rw [advance_few few, Bench.countSegment_few (by omega)]

theorem advance_full {b : Bench} (full : 255 ≤ b.st.sc.executed) (k : Nat) :
    advance 257 k b = b.countSegment.raise .runaway := by
  have counted := b.countSegment_executed
  rw [advance_succ, if_pos (by omega)]

/-! ### A hold, and the wait for the leak activity -/

theorem Bench.holdAt_eq (b : Bench) (why : HoldReason) (k : Nat) : b.holdAt why k =
    (b.setSc { b.st.sc with state := .held, holdReason := some why, index := k }).setDc
      { b.st.dc.freeze with
        enable := true
        torqueLimit := driveLimit b.st.dc.freeze.torqueCheck b.setup.maxTorque } := by
  rw [Bench.holdAt, Bench.follow_eq, Bench.followed_driving rfl]
  rfl

theorem Bench.endOfTest_of_busy {b : Bench} (busy : b.leakBusy = true) : b.endOfTest =
    (b.setSc { b.st.sc with state := .finishing, holdReason := none }).setDc
      { b.st.dc.freeze with
        enable := true
        torqueLimit := driveLimit b.st.dc.freeze.torqueCheck b.setup.maxTorque } := by
  rw [Bench.endOfTest, if_pos busy, Bench.follow_eq, Bench.followed_driving rfl]
  rfl

theorem Bench.endOfTest_of_free {b : Bench} (free : ¬ b.leakBusy = true) :
    b.endOfTest = b.closeRecord false := by rw [Bench.endOfTest, if_neg free]

/-! ### Taking up a working segment -/

theorem Bench.takeUp_dc (b : Bench) (g : Segment) (k : Nat) : (b.takeUp g k).st.dc =
    { b.st.dc.begin g.body with
      enable := true
      torqueLimit := driveLimit (b.st.dc.begin g.body).torqueCheck b.setup.maxTorque } := by
  rw [Bench.takeUp, Bench.follow_eq, Bench.followed_driving rfl]
  rfl

theorem Bench.takeUp_rest (b : Bench) (g : Segment) (k : Nat) : b.takeUp g k =
    (b.setSc (b.takeUp g k).st.sc).setDc (b.takeUp g k).st.dc := by
  obtain ⟨d, same⟩ := b.takeUp_eq g k
  have dc : (b.takeUp g k).st.dc = d := by rw [same]; rfl
  rw [dc]
  exact same

theorem Bench.takeUp_keeps (b : Bench) (g : Segment) (k : Nat) :
    (b.takeUp g k).store = b.store ∧ (b.takeUp g k).lib = b.lib ∧ (b.takeUp g k).st.lu = b.st.lu ∧
      (b.takeUp g k).flags = b.flags ∧ (b.takeUp g k).supplyOk = b.supplyOk := by
  rw [Bench.takeUp_rest]
  exact ⟨rfl, rfl, rfl, rfl, rfl⟩

/-- The drive as a RAMP, DWELL or LISTEN begins. -/
theorem Drive.begin_of_params {body : SegBody} {p : Params} (params : body.params = some p) (d : Drive) :
    d.begin body = { d with
      devRun := 0, torqueRun := 0, maxError := 0, maxTorque := 0, clamped := false
      params := some p, reached := false, dwell := 0, steady := false } := by
  simp only [Drive.begin, params]

/-- The drive as a LEAK_START or LEAK_WAIT begins. -/
theorem Drive.begin_of_none {body : SegBody} (params : body.params = none) (d : Drive) :
    d.begin body = { d with devRun := 0, torqueRun := 0, maxError := 0, maxTorque := 0, clamped := false } := by
  simp only [Drive.begin, params]

theorem Drive.begin_figures (body : SegBody) (d : Drive) :
    (d.begin body).setpoint = d.setpoint ∧ (d.begin body).devRun = 0 ∧ (d.begin body).torqueRun = 0 ∧
      (d.begin body).maxError = 0 ∧ (d.begin body).maxTorque = 0 ∧ (d.begin body).clamped = false := by
  unfold Drive.begin
  cases body.params <;> exact ⟨rfl, rfl, rfl, rfl, rfl, rfl⟩

theorem SegBody.params_of_driving {body : SegBody}
    (kind : body.kind = .ramp ∨ body.kind = .dwell ∨ body.kind = .listen) : ∃ p, body.params = some p := by
  cases body with
  | ramp m tc x => exact ⟨_, rfl⟩
  | dwell m tc x => exact ⟨_, rfl⟩
  | listen m x n r a => exact ⟨_, rfl⟩
  | _ => simp [SegBody.kind] at kind

theorem SegBody.params_of_leak {body : SegBody} (kind : body.kind = .leakStart ∨ body.kind = .leakWait) :
    body.params = none := by
  cases body with
  | leakStart p => rfl
  | leakWait x => rfl
  | _ => simp [SegBody.kind] at kind

/-! ### The beginning of a working segment -/

theorem Bench.beginSegment_of_motion {b : Bench} {g : Segment} {k : Nat}
    (kind : g.body.kind = .ramp ∨ g.body.kind = .dwell) : b.beginSegment g k = .running (b.takeUp g k) := by
  cases body : g.body with
  | ramp m tc x => simp only [Bench.beginSegment, body]
  | dwell m tc x => simp only [Bench.beginSegment, body]
  | _ => simp [body, SegBody.kind] at kind

theorem Bench.beginSegment_of_leakWait {b : Bench} {g : Segment} {k x : Nat} (body : g.body = .leakWait x) :
    b.beginSegment g k = if b.leakBusy then .running (b.takeUp g k) else .ended .done (b.takeUp g k) := by
  have same : (b.takeUp g k).leakBusy = b.leakBusy := congrArg inProgress (b.takeUp_keeps g k).2.2.1
  simp only [Bench.beginSegment, body, same]

theorem Bench.beginSegment_of_leakStart {b : Bench} {g : Segment} {k : Nat} {p : LeakParams}
    (body : g.body = .leakStart p) : b.beginSegment g k =
      if b.leakBusy then .ended .failed ((b.takeUp g k).recordDefect .leakBusy)
      else .ended .done ((b.takeUp g k).startLeak p) := by
  have same : (b.takeUp g k).leakBusy = b.leakBusy := congrArg inProgress (b.takeUp_keeps g k).2.2.1
  simp only [Bench.beginSegment, body, same]

theorem Begun.next_ended_run (g : Segment) (o : SegOutcome) (b : Bench) :
    (Begun.next g (.ended o b)).run = b.segmentOver g o := Bench.afterSegment_run _ o

/-- The activity that a LEAK_START of the bench starts (R134). -/
def Bench.activityOf (p : LeakParams) (b : Bench) : Activity :=
  let v := b.st.sc.variantSlot.bind fun n => entryAt b.lib.variants n
  newActivity b.st.sc.recordId p ((v.map Variant.volume).getD 0) ((v.map Variant.leakLimit).getD 0)

theorem Bench.startLeak_eq (b : Bench) (p : LeakParams) : b.startLeak p =
    { b.setLu (some (b.activityOf p)) with
      flags := if b.supplyOk = true then b.flags else { b.flags with airShort := true } } := by
  show (if b.supplyOk then b.setLu (some (b.activityOf p))
    else { b.setLu (some (b.activityOf p)) with flags := b.flags.setAirShort }) = _
  cases b.supplyOk <;> rfl

theorem Bench.takeUp_activityOf (b : Bench) (g : Segment) (k : Nat) (p : LeakParams) :
    (b.takeUp g k).activityOf p = b.activityOf p := by
  unfold Bench.activityOf
  rw [(b.takeUp_keeps g k).2.1, Bench.takeUp_sc]

/-! ### A LISTEN that begins -/

theorem Bench.usableAngles_of_present {b : Bench} {n : Nat} {t : AngleTable}
    (there : entryAt b.lib.angles b.setup.angleTable = some t) (present : t.state = .present)
    (fits : t.e * n ≤ 16384) : b.usableAngles n = some t := by
  simp only [Bench.usableAngles, there, Config.maxWindow, present, fits, and_self, if_true]

theorem Bench.usableAngles_of_unusable {b : Bench} {n : Nat}
    (unusable : ∀ t, entryAt b.lib.angles b.setup.angleTable = some t →
      t.state ≠ .present ∨ 16384 < t.e * n) : b.usableAngles n = none := by
  cases usable : b.usableAngles n with
  | none => rfl
  | some t =>
    obtain ⟨there, present, fits⟩ := Bench.usableAngles_spec usable
    cases unusable t there with
    | inl absent => exact absurd present absent
    | inr long => exact absurd fits (Nat.not_le_of_lt long)

section
variable {b : Bench} {g : Segment} {k n r most limit : Nat} {m : Motion} (body : g.body = .listen m limit n r most)
include body

theorem Bench.beginSegment_of_listen : b.beginSegment g k = b.beginListen g k n r most limit := by
  simp only [Bench.beginSegment, body]

theorem Bench.beginListen_noLimits (absent : entryAt b.lib.limits n = none) :
    b.beginSegment g k = .faulted (b.faultListen .noLimits k) := by
  rw [Bench.beginSegment_of_listen body, Bench.beginListen, absent]

theorem Bench.beginListen_noAngle {ls : LimitSet} (there : entryAt b.lib.limits n = some ls)
    (unusable : b.usableAngles r = none) : b.beginSegment g k = .faulted (b.faultListen .noAngle k) := by
  rw [Bench.beginSegment_of_listen body, Bench.beginListen, there, unusable]

end

theorem beginPoint_settled_iff (n : Nat) (ls : LimitSet) (e most limit ordinal : Nat) :
    (beginPoint n ls e most limit ordinal).settled = true ↔ ∀ o ∈ ls.lines, e ≤ 2 * o.order := by
  rw [Point.settled_iff]
  simp only [beginPoint, List.forall_mem_map]
  refine forall₂_congr fun o _ => ?_
  unfold OrderLine.begin
  split
  next computed => simpa using computed
  next out => simpa using out

/-- A point whose lines all lie out of range is NOT_JUDGED. -/
theorem beginPoint_outcome {n : Nat} {ls : LimitSet} {e most limit ordinal : Nat}
    (out : ∀ o ∈ ls.lines, e ≤ 2 * o.order) (some_line : ls.lines ≠ []) :
    (beginPoint n ls e most limit ordinal).outcome = .notJudged := by
  have each : ∀ o ∈ ls.lines, (OrderLine.begin e o).verdict = .notJudged := fun o ho =>
    if_neg (Nat.not_lt_of_le (out o ho))
  obtain ⟨o, ho⟩ := List.exists_mem_of_ne_nil _ some_line
  unfold Point.outcome
  rw [if_neg, if_pos]
  · simp only [beginPoint, List.any_map, List.any_eq_true]
    exact ⟨o, ho, decide_eq_true (each o ho)⟩
  · simp only [beginPoint, List.any_map, List.any_eq_true, not_exists, not_and]
    intro o ho fails
    rw [Function.comp_apply, each o ho] at fails
    cases fails

end Sys2Proof.Machine
end

section
/-! SUPPORT. Done segments and segments reached (O35). -/

namespace Sys2Proof.Machine

/-! ### The end of a segment -/

theorem rampDone_leaves {s : State} {i : StNo} {rest : List Todo} {g : Segment} (runs : s.Runs i g)
    (due : s.Due i .rampDone rest) (kind : g.body.kind = .ramp) :
    LeavesBench (.rampDone i) s i rest ((s.desk i).segmentOver g .done) := by
  refine leaves_of_due (e := .rampDone) due ?_
  show (s.desk i).rampDone = _
  rw [Bench.rampDone, Bench.inKind_of_running (b := s.desk i) runs.1 runs.2, if_pos (decide_eq_true kind)]
  exact Bench.endSegment_eq (b := s.desk i) runs.1 runs.2 .done

theorem dwellDone_leaves {s : State} {i : StNo} {rest : List Todo} {g : Segment} (runs : s.Runs i g)
    (due : s.Due i .dwellDone rest) (kind : g.body.kind = .dwell) :
    LeavesBench (.dwellDone i) s i rest ((s.desk i).segmentOver g .done) := by
  refine leaves_of_due (e := .dwellDone) due ?_
  show (s.desk i).dwellDone = _
  rw [Bench.dwellDone, Bench.inKind_of_running (b := s.desk i) runs.1 runs.2, if_pos (decide_eq_true kind)]
  exact Bench.endSegment_eq (b := s.desk i) runs.1 runs.2 .done

section
variable (b : Bench) (g : Segment) (o : SegOutcome)

theorem Bench.finishSegment_entry : (b.finishSegment g o).store =
      b.store.onOpen b.st.sc.recordId (Record.addSegment (b.segResult g o)) ∧
    (b.finishSegment g o).st.point = none := by
  rw [Bench.finishSegment_eq]
  exact ⟨rfl, rfl⟩

theorem Bench.finishSegment_heard {p : Point} (point : b.st.point = some p) :
    (b.finishSegment g o).st.aw = b.st.aw.endListen ∧
      ∀ e, (b.finishSegment g o).lib.inUse e =
        if e = .limits p.limitSet ∨ e = .angle b.setup.angleTable then b.lib.inUse e - 1
        else b.lib.inUse e := by
  refine ⟨?_, fun e => ?_⟩
  · rw [Bench.finishSegment_eq]
    show b.awUnheard = _
    rw [Bench.awUnheard, point]
  · rw [Bench.finishSegment_lib_some point, Library.inUse_dropListen]
    split <;> rfl

theorem Bench.finishSegment_unheard (point : b.st.point = none) :
    (b.finishSegment g o).st.aw = b.st.aw ∧ (b.finishSegment g o).lib = b.lib := by
  rw [Bench.finishSegment_eq]
  show b.awUnheard = _ ∧ b.libUnheard = _
  rw [Bench.awUnheard, Bench.libUnheard, point]
  exact ⟨rfl, rfl⟩

end

/-! ### Taking up -/

section
variable (b : Bench) (g : Segment) (k : Nat)

theorem Bench.takeUp_drive :
    (b.takeUp g k).st.dc.setpoint = b.st.dc.setpoint ∧ (b.takeUp g k).st.dc.enable = true ∧
      (b.takeUp g k).st.dc.devRun = 0 ∧ (b.takeUp g k).st.dc.torqueRun = 0 ∧
      (b.takeUp g k).st.dc.maxError = 0 ∧ (b.takeUp g k).st.dc.maxTorque = 0 ∧
      (b.takeUp g k).st.dc.clamped = false := by
  obtain ⟨setpoint, dev, torque, error, most, clamped⟩ := Drive.begin_figures g.body b.st.dc
  rw [Bench.takeUp_dc]
  exact ⟨setpoint, rfl, dev, torque, error, most, clamped⟩

theorem Bench.takeUp_params {p : Params} (params : g.body.params = some p) :
    (b.takeUp g k).st.dc.params = some p ∧
      (b.takeUp g k).st.dc.torqueLimit = driveLimit p.torqueCheck b.setup.maxTorque ∧
      (b.takeUp g k).st.dc.reached = false ∧ (b.takeUp g k).st.dc.dwell = 0 ∧
      (b.takeUp g k).st.dc.steady = false := by
  rw [Bench.takeUp_dc, Drive.begin_of_params params]
  exact ⟨rfl, rfl, rfl, rfl, rfl⟩

theorem Bench.takeUp_no_params (params : g.body.params = none) :
    (b.takeUp g k).st.dc.params = b.st.dc.params ∧ (b.takeUp g k).st.dc.reached = b.st.dc.reached ∧
      (b.takeUp g k).st.dc.dwell = b.st.dc.dwell ∧ (b.takeUp g k).st.dc.steady = b.st.dc.steady := by
  rw [Bench.takeUp_dc, Drive.begin_of_none params]
  exact ⟨rfl, rfl, rfl, rfl⟩

end

/-! ### The end of the last recipe of the chain -/

/-- An END that empties the chain while the leak activity is not DONE. -/
theorem Bench.finishing_spec {b : Bench} (busy : b.leakBusy = true) :
    b.endOfTest.st.sc = { b.st.sc with state := .finishing, holdReason := none } ∧
      b.endOfTest.st.dc.setpoint = b.st.dc.setpoint ∧
      b.endOfTest.st.dc.params = b.st.dc.params.map (fun p => { p with target := b.st.dc.setpoint }) ∧
      b.endOfTest.store = b.store ∧ b.endOfTest.lib = b.lib ∧ b.endOfTest.st.lu = b.st.lu := by
  rw [Bench.endOfTest_of_busy busy]
  exact ⟨rfl, rfl, rfl, rfl, rfl, rfl⟩

/-! ### Reaching, from the bench before the count -/

section
variable {b : Bench} {g : Segment} {k r : Nat} (few : b.st.sc.executed < 255)
  (segment : b.lib.segment b.topRecipe k = some g)
include few segment

theorem advance_of_call (body : g.body = .call r) : advance 257 k b = (b.countSegment.call r k).run := by
  rw [advance_counted few, Bench.reachOne_of_call (b := b.countSegment) segment body]

theorem advance_of_chain (body : g.body = .chain r) : advance 257 k b = (b.countSegment.chainTo r).run := by
  rw [advance_counted few, Bench.reachOne_of_chain (b := b.countSegment) segment body]

theorem advance_of_finish (body : g.body = .finish) : advance 257 k b = b.countSegment.finish.run := by
  rw [advance_counted few, Bench.reachOne_of_finish (b := b.countSegment) segment body]

theorem advance_of_pause (working : g.body.isFlow = false)
    (held : g.pause = true ∧ b.st.mode = .run ∧ b.st.sc.pauseRelease = false) :
    advance 257 k b = b.countSegment.holdAt .pause k := by
  rw [advance_counted few, Bench.reachOne_of_working (b := b.countSegment) segment working]
  exact congrArg Flow.run (if_pos held)

theorem advance_of_begun (working : g.body.isFlow = false)
    (go : ¬ (g.pause = true ∧ b.st.mode = .run ∧ b.st.sc.pauseRelease = false)) :
    advance 257 k b = (Begun.next g (b.countSegment.beginSegment g k)).run := by
  rw [advance_of_working segment working few go, Bench.countSegment_few (by omega)]

end

/-- A LISTEN whose tables are usable begins, or finishes at once where every line lies out of range. -/
theorem Bench.beginListen_begun {b : Bench} {g : Segment} {k n r most limit : Nat} {m : Motion}
    {ls : LimitSet} {t : AngleTable} (body : g.body = .listen m limit n r most)
    (set : entryAt b.lib.limits n = some ls) (usable : b.usableAngles r = some t) :
    let x := b.listenBegun g k n r t (beginPoint n ls t.e most limit b.st.sc.executed)
    ((∃ o ∈ ls.lines, 2 * o.order < t.e) → (Begun.next g (b.beginSegment g k)).run = x) ∧
    ((∀ o ∈ ls.lines, t.e ≤ 2 * o.order) → ls.lines ≠ [] →
      (Begun.next g (b.beginSegment g k)).run = x.writePoint.segmentOver g .notJudged) := by
  intro x
  rw [Bench.beginSegment_of_listen body, Bench.beginListen_eq set usable]
  refine ⟨fun ⟨o, mem, computed⟩ => ?_, fun out lines => ?_⟩
  · dsimp only
    rw [if_neg fun settled => absurd ((beginPoint_settled_iff ..).1 settled o mem) (by omega)]
    rfl
  · dsimp only
    rw [if_pos ((beginPoint_settled_iff ..).2 out), Begun.next_ended_run, beginPoint_outcome out lines]

/-- Settles O35: the end of a segment by its entries and the run mode, and a segment reached by its kind. -/
theorem doneSegmentsAreRecorded : Obligations.DoneSegmentsAreRecorded := by
  refine ⟨Bench.topRecipe_eq, fun l r k => ⟨l.segment_eq r k, l.stopOnFail_eq r⟩,
    fun s i rest g runs => ⟨rampDone_leaves runs, dwellDone_leaves runs, fun o => ?_⟩, fun b g k => ?_,
    fun b k => ?_, fun b why k => ?_⟩
  · obtain ⟨store, point⟩ := (s.desk i).finishSegment_entry g o
    refine ⟨store, (s.desk i).finishSegment_sc g o, point, (s.desk i).finishSegment_unheard g o,
      fun p point => (s.desk i).finishSegment_heard g o point⟩
  · obtain ⟨store, lib, lu, -⟩ := b.takeUp_keeps g k
    obtain ⟨setpoint, enable, dev, torque, error, most, clamped⟩ := b.takeUp_drive g k
    refine ⟨b.takeUp_sc g k, store, lib, lu, setpoint, enable, dev, torque, error, most, clamped,
      fun m tc x body => ?_, fun m x n r a body => ?_, fun kind => ?_, fun kind => ?_⟩
    · have params : g.body.params = some (motionParams m (some tc)) := by
        cases body with
        | inl body => rw [body]; rfl
        | inr body => rw [body]; rfl
      obtain ⟨brought, limit, -⟩ := b.takeUp_params g k params
      exact ⟨brought, limit⟩
    · obtain ⟨brought, limit, -⟩ := b.takeUp_params g k (p := motionParams m none) (by rw [body]; rfl)
      exact ⟨brought, limit⟩
    · obtain ⟨p, params⟩ := SegBody.params_of_driving kind
      obtain ⟨-, -, marks⟩ := b.takeUp_params g k params
      exact marks
    · exact b.takeUp_no_params g k (SegBody.params_of_leak kind)
  · intro sc c busy
    have busyIff : c.leakBusy = true ↔ busy := b.leakBusy_iff
    refine ⟨fun full => advance_full full k, fun few g segment => ⟨fun r body => ?_, fun r body => ?_,
      fun body => ?_, fun working pause mode release => ?_, fun working go => ?_⟩⟩
    · rw [advance_of_call few segment body]
      refine ⟨fun absent => ?_, fun e there => ?_⟩
      · rw [Bench.call_of_absent (b := b.countSegment) absent]
        rfl
      · rw [Bench.call_of_there (b := b.countSegment) there]
        refine ⟨fun held => ?_, fun free deep => ?_, fun free room => ?_⟩
        · rw [if_pos (by exact held)]
          rfl
        · rw [if_neg (by exact free), if_pos (by exact deep)]
          rfl
        · rw [if_neg (by exact free), if_neg (by exact Nat.not_le_of_lt room)]
          rfl
    · rw [advance_of_chain few segment body]
      refine ⟨fun absent => ?_, fun e top below there chain => ?_⟩
      · rw [Bench.chainTo_of_absent (b := b.countSegment) absent]
        rfl
      · rw [Bench.chainTo_of_there (b := b.countSegment) there chain]
        refine ⟨fun held => ?_, fun free => ?_⟩
        · rw [if_pos held]
          rfl
        · rw [if_neg free]
          rfl
    · rw [advance_of_finish few segment body]
      refine ⟨fun top next below n chain ret => ?_, fun top chain => ?_⟩
      · rw [Bench.finish_of_below (b := b.countSegment) chain, ret]
        rfl
      · intro e
        rw [Bench.finish_of_last (b := b.countSegment) chain]
        refine ⟨fun free => ?_, fun held => ?_⟩
        · exact Bench.endOfTest_of_free (b := e) fun h => free (busyIff.1 h)
        · exact Bench.finishing_spec (b := e) (busyIff.2 held)
    · exact advance_of_pause few segment working ⟨pause, mode, release⟩
    · intro u
      have begun : advance 257 k b = (Begun.next g (c.beginSegment g k)).run :=
        advance_of_begun few segment working go
      rw [begun]
      refine ⟨fun kind => ?_, fun x body => ?_, fun p body => ?_, fun m limit n r most body => ?_⟩
      · rw [Bench.beginSegment_of_motion kind]
        rfl
      · rw [Bench.beginSegment_of_leakWait body]
        refine ⟨fun held => ?_, fun free => ?_⟩
        · rw [if_pos (by exact busyIff.2 held)]
          rfl
        · rw [if_neg fun h => free (busyIff.1 h), Begun.next_ended_run]
      · rw [Bench.beginSegment_of_leakStart body]
        refine ⟨fun held => ?_, fun free => ?_⟩
        · rw [if_pos (by exact busyIff.2 held), Begun.next_ended_run]
        · obtain ⟨-, -, -, flags, supply⟩ := c.takeUp_keeps g k
          rw [if_neg fun h => free (busyIff.1 h), Begun.next_ended_run, Bench.startLeak_eq,
            Bench.takeUp_activityOf, flags, supply]
          rfl
      · intro faulted
        refine ⟨fun absent => ?_, fun ls set => ⟨fun unusable => ?_, fun t there present fits => ?_⟩⟩
        · rw [Bench.beginListen_noLimits body (b := c) absent]
          rfl
        · rw [Bench.beginListen_noAngle body (b := c) set (Bench.usableAngles_of_unusable unusable)]
          rfl
        · exact Bench.beginListen_begun (b := c) body set
            (Bench.usableAngles_of_present (b := c) there present fits)
  · rw [Bench.holdAt_eq]
    exact ⟨rfl, rfl, rfl, rfl, rfl, rfl⟩

end Sys2Proof.Machine
end

section
/-! SUPPORT. CELL_RESET: the test of one station, and the four stations after one another. -/

namespace Sys2Proof.Machine

/-! ### The contents of the tables -/

/-- The four tables with every in-use count 0. -/
def Library.bare (l : Library) : Library :=
  { variants := l.variants.map (Option.map fun v => { v with inUse := 0 })
    recipes := l.recipes.map (Option.map fun v => { v with inUse := 0 })
    limits := l.limits.map (Option.map fun v => { v with inUse := 0 })
    angles := l.angles.map (Option.map fun v => { v with inUse := 0 }) }

theorem map_entryMap {α β : Type} (t : List (Option α)) (k : Nat) {f : α → α} {g : α → β}
    (same : ∀ a, g (f a) = g a) : (entryMap t k f).map (Option.map g) = t.map (Option.map g) := by
  refine List.ext_getElem? fun j => ?_
  simp only [entryMap, List.getElem?_map, List.getElem?_modify]
  split
  · cases t[j]? with
    | none => rfl
    | some o => cases o <;> simp [same]
  · simp

theorem Library.bare_dropRecipe (l : Library) (r : Nat) : (l.dropRecipe r).bare = l.bare :=
  congrArg (fun t => { l.bare with recipes := t }) (map_entryMap l.recipes r fun _ => by rfl)

theorem Library.bare_dropChain (l : Library) (ch : List ChainEntry) : (l.dropChain ch).bare = l.bare := by
  induction ch generalizing l with
  | nil => rfl
  | cons c cs ih => rw [Library.dropChain, ih, Library.bare_dropRecipe]

theorem Library.bare_dropVariant (l : Library) (k : Nat) : (l.dropVariant k).bare = l.bare :=
  congrArg (fun t => { l.bare with variants := t }) (map_entryMap l.variants k fun _ => by rfl)

theorem Library.bare_dropListen (l : Library) (k n : Nat) : (l.dropListen k n).bare = l.bare :=
  congrArg₂ (fun t u => { l.bare with limits := t, angles := u })
    (map_entryMap l.limits k fun _ => by rfl) (map_entryMap l.angles n fun _ => by rfl)

theorem Bench.abandonSegment_bare (b : Bench) : b.abandonSegment.lib.bare = b.lib.bare := by
  cases seg : b.st.sc.segment with
  | none => rw [Bench.abandonSegment_of_none seg]
  | some g =>
    rw [Bench.abandonSegment_of_some seg]
    cases point : b.st.point with
    | none => rw [Bench.finishSegment_lib_none point]
    | some p => rw [Bench.finishSegment_lib_some point, Library.bare_dropListen]

theorem Bench.releaseVariant_bare (b : Bench) : b.releaseVariant.lib.bare = b.lib.bare := by
  unfold Bench.releaseVariant
  split
  · exact Library.bare_dropVariant _ _
  · rfl

/-! ### The test of one station -/

theorem Store.closeRecord_at_other {t : Store} {k id : Nat} {q : Record} (here : t.At k q)
    (other : ¬ (q.id = id ∧ q.closed = false)) (now : Word) (why : Option StopReason) :
    (t.closeRecord id now why).At k q := by
  unfold Store.closeRecord
  split
  · exact mapOpen_at.2 ⟨q, here, by rw [if_neg other]⟩
  · exact here

theorem Store.closeRecord_idCounter (t : Store) (id : Nat) (now : Word) (why : Option StopReason) :
    (t.closeRecord id now why).idCounter = t.idCounter := by
  unfold Store.closeRecord
  split <;> rfl

/-- The drive off, a test ends as with the drive on. -/
theorem Bench.abandonSegment_disable (b : Bench) :
    (b.setDc b.st.dc.disable).abandonSegment.store = b.abandonSegment.store ∧
      (b.setDc b.st.dc.disable).abandonSegment.st.aw = b.abandonSegment.st.aw := by
  cases seg : b.st.sc.segment with
  | none =>
    rw [Bench.abandonSegment_of_none (b := b) seg, Bench.abandonSegment_of_none (b := b.setDc b.st.dc.disable) seg]
    exact ⟨rfl, rfl⟩
  | some g =>
    rw [Bench.abandonSegment_of_some (b := b) seg, Bench.abandonSegment_of_some (b := b.setDc b.st.dc.disable) seg,
      Bench.finishSegment_eq, Bench.finishSegment_eq]
    exact ⟨rfl, rfl⟩

/-- The bench of CELL_RESET before the record closes, field by field. -/
theorem Bench.resetOver_spec (b : Bench) :
    b.resetOver.st.lu = b.st.lu.map Activity.aborted ∧ b.resetOver.st.ou = b.st.ou ∧
    b.resetOver.st.aw = b.abandonSegment.st.aw ∧ b.resetOver.flags = b.flags ∧
    b.resetOver.lineStop = b.lineStop ∧ b.resetOver.now = b.now ∧
    b.resetOver.store = b.store.onOpen b.st.sc.recordId (b.abortEntry ∘ b.abandonEntry) ∧
    b.resetOver.lib.bare = b.lib.bare := by
  obtain ⟨store, aw⟩ := b.abandonSegment_disable
  have id : (b.setDc b.st.dc.disable).abandonSegment.st.sc.recordId = b.st.sc.recordId := by
    rw [Bench.abandonSegment_sc]
    rfl
  have bare : (b.setDc b.st.dc.disable).abandonSegment.lib.bare = b.lib.bare := Bench.abandonSegment_bare _
  have around : b.resetOver.around = b.around := by simp [Bench.resetOver]
  have now : b.resetOver.now = b.now := (Bench.around_eq around).2.1
  clear around
  obtain ⟨lu, ou, -, -, -, -, flags, lineStop⟩ := (b.setDc b.st.dc.disable).abandonSegment_rest
  unfold Bench.resetOver at now ⊢
  generalize (b.setDc b.st.dc.disable).abandonSegment = x at *
  have entry : x.abortEntry = b.abortEntry := Bench.abortEntry_congr lu id
  have entered : x.abortLeak.store = b.store.onOpen b.st.sc.recordId (b.abortEntry ∘ b.abandonEntry) := by
    rw [Bench.abortLeak_eq, ← Store.onOpen_onOpen _ _ b.abandonEntry_keepsIdentity, ← b.abandonSegment_store,
      ← store, ← entry, ← id]
    rfl
  obtain ⟨store', flags', lineStop'⟩ := x.abortLeak.clearChain.releaseVariant_shared
  rw [store', flags', lineStop', Bench.releaseVariant_bare, Bench.releaseVariant_st]
  refine ⟨?_, ?_, ?_, ?_, ?_, now, entered, (Library.bare_dropChain _ _).trans ?_⟩
  all_goals rw [Bench.abortLeak_eq]
  · exact congrArg (Option.map Activity.aborted) lu
  · exact ou
  · exact aw
  · exact flags
  · exact lineStop
  · exact bare

theorem Bench.resetTest_of_idle {b : Bench} (idle : b.st.sc.state = .idle) : b.resetTest = b := if_pos idle

theorem Bench.resetTest_of_busy {b : Bench} (busy : b.st.sc.state ≠ .idle) : b.resetTest =
    (b.resetOver.setSc { b.resetOver.st.sc with stopReason := some .cellReset }).closeRecord true := if_neg busy

/-- The store once the test of the station has ended and its record is closed (R82). -/
def Bench.resetStore (b : Bench) : Store :=
  (b.store.onOpen b.st.sc.recordId (b.abortEntry ∘ b.abandonEntry)).closeRecord b.st.sc.recordId b.now
    (some .cellReset)

/-- A station that is not IDLE at CELL_RESET, field by field. -/
theorem Bench.resetTest_spec {b : Bench} (busy : b.st.sc.state ≠ .idle) :
    b.resetTest.st.sc = Context.idle ∧ b.resetTest.st.dc = Drive.idle ∧ b.resetTest.st.ou = b.st.ou ∧
    b.resetTest.st.point = none ∧ b.resetTest.st.lu = b.st.lu.map Activity.aborted ∧
    b.resetTest.st.aw = b.abandonSegment.st.aw.endListen ∧
    b.resetTest.flags = b.flags.setReportReady ∧ b.resetTest.lineStop = b.lineStop ∧
    b.resetTest.store = b.resetStore ∧ b.resetTest.lib.bare = b.lib.bare := by
  obtain ⟨lu, ou, aw, flags, lineStop, now, store, bare⟩ := b.resetOver_spec
  have busy' : (b.resetOver.setSc { b.resetOver.st.sc with stopReason := some .cellReset }).st.sc.state ≠ .idle := by
    rw [Bench.resetOver_sc]
    exact busy
  have id : b.resetOver.st.sc.recordId = b.st.sc.recordId := by rw [Bench.resetOver_sc]
  obtain ⟨dc', -, lu', aw', point', -, -, flags', store', ou'⟩ := Bench.closeRecord_rest busy' true
  rw [Bench.resetTest_of_busy busy, dc', lu', aw', point', flags', store', ou', Bench.closeRecord_sc,
    if_neg busy', Bench.closeRecord_lineStop, Bench.closeRecord_lib busy', Bench.releaseVariant_bare]
  refine ⟨rfl, rfl, ou, rfl, lu, congrArg AngleUnit.endListen aw, congrArg Flags.setReportReady flags,
    lineStop, ?_, bare⟩
  show b.resetOver.store.closeRecord b.resetOver.st.sc.recordId b.resetOver.now (some .cellReset) = _
  rw [store, id, now]
  rfl

/-- What the reset of a station does to a record that is not its OPEN one. -/
theorem Bench.resetTest_other {b : Bench} {k : Nat} {q : Record} (here : b.store.At k q)
    (other : b.st.sc.state ≠ .idle → ¬ (q.id = b.st.sc.recordId ∧ q.closed = false)) :
    b.resetTest.store.At k q := by
  by_cases idle : b.st.sc.state = .idle
  · rwa [Bench.resetTest_of_idle idle]
  · obtain ⟨-, -, -, -, -, -, -, -, store, -⟩ := Bench.resetTest_spec idle
    rw [store]
    exact Store.closeRecord_at_other (Store.onOpen_at_other here (other idle) _) (other idle) _ _

theorem Bench.resetTest_lineStop (b : Bench) : b.resetTest.lineStop = b.lineStop := by
  by_cases idle : b.st.sc.state = .idle
  · rw [Bench.resetTest_of_idle idle]
  · exact (Bench.resetTest_spec idle).2.2.2.2.2.2.2.1

theorem Bench.resetTest_bare (b : Bench) : b.resetTest.lib.bare = b.lib.bare := by
  by_cases idle : b.st.sc.state = .idle
  · rw [Bench.resetTest_of_idle idle]
  · exact (Bench.resetTest_spec idle).2.2.2.2.2.2.2.2.2

theorem Bench.resetTest_idCounter (b : Bench) : b.resetTest.store.idCounter = b.store.idCounter := by
  by_cases idle : b.st.sc.state = .idle
  · rw [Bench.resetTest_of_idle idle]
  · obtain ⟨-, -, -, -, -, -, -, -, store, -⟩ := Bench.resetTest_spec idle
    rw [store]
    exact Store.closeRecord_idCounter _ _ _ _

/-- The record of a station that is not IDLE, once its test has ended and it is closed. -/
def Bench.resetRecord (b : Bench) (q : Record) : Record :=
  (b.abortEntry (b.abandonEntry q)).close b.now (some .cellReset)

/-- The OPEN record of a station that is not IDLE closes in its slot and its id is queued. -/
theorem Bench.resetStore_eq {b : Bench} {held : StNo → Option Nat} {i : StNo} (agree : b.store.Agrees held)
    (here : held i = some b.st.sc.recordId) : b.resetStore.closeQueue = b.store.closeQueue ++ [b.st.sc.recordId] ∧
      ∀ k q, b.store.At k q → q.id = b.st.sc.recordId → q.closed = false →
        b.resetStore.At k (b.resetRecord q) := by
  rw [Bench.resetStore, (agree.onOpen b.endEntry_keepsIdentity b.st.sc.recordId).closeRecord_eq here]
  refine ⟨rfl, fun k q at_ own isOpen => ?_⟩
  have entered := Store.onOpen_at_self at_ isOpen (b.abortEntry ∘ b.abandonEntry)
  rw [own] at entered
  obtain ⟨id, -, closed⟩ := b.endEntry_keepsIdentity q
  exact mapOpen_at.2 ⟨_, entered, by rw [if_pos ⟨id.trans own, closed.trans isOpen⟩]; rfl⟩

/-! ### The four stations -/

theorem resetTest_aside {i j : StNo} (ne : i ≠ j) (s : State) : Aside i s (s.onStation j Bench.resetTest) where
  station := s.onStation_get_ne ne _
  setups := rfl
  lineStop := (s.bench j).resetTest_lineStop
  records agree busy := by
    refine ⟨(s.leads_onStation j (Bench.leads_resetTest _)).keeps (fun _ _ h => h.move) agree,
      fun k q here own => Bench.resetTest_other (b := s.bench j) here fun driven h => ?_⟩
    exact ne (agree.distinct busy driven (own.symm.trans h.1))

theorem resetTest_closed {s : State} {k : Nat} {q : Record} (here : s.store.At k q) (closed : q.closed = true)
    (j : StNo) : (s.onStation j Bench.resetTest).store.At k q :=
  Bench.resetTest_other (b := s.bench j) here fun _ h => by rw [closed] at h; cases h.2

/-- Station `i` among the four: nothing concerns it before its own reset, and after it the station and the closed
records stay. -/
theorem State.endTests_at (s : State) (i : StNo) : ∃ p : State, Aside i s p ∧ p.tb = s.tb ∧
    s.endTests.stations.get i = (p.bench i).resetTest.st ∧
    ∀ k q, q.closed = true → (p.bench i).resetTest.store.At k q → s.endTests.store.At k q := by
  have step := fun (j : StNo) (ne : i ≠ j) (p : State) => resetTest_aside ne p
  have keep := fun (j : StNo) (ne : i ≠ j) (p : State) => p.onStation_get_ne ne Bench.resetTest
  unfold State.endTests
  fin_cases i
  · refine ⟨_, .refl _ _, rfl, ?_, fun k q closed here => resetTest_closed (resetTest_closed (resetTest_closed
      here closed 1) closed 2) closed 3⟩
    exact (keep 3 (by decide) _).trans ((keep 2 (by decide) _).trans ((keep 1 (by decide) _).trans
      (s.onStation_get 0 _)))
  · refine ⟨_, step 0 (by decide) s, rfl, ?_, fun k q closed here => resetTest_closed (resetTest_closed
      here closed 2) closed 3⟩
    exact (keep 3 (by decide) _).trans ((keep 2 (by decide) _).trans (State.onStation_get _ 1 _))
  · refine ⟨_, (step 0 (by decide) s).trans (step 1 (by decide) _), rfl, ?_, fun k q closed here =>
      resetTest_closed here closed 3⟩
    exact (keep 3 (by decide) _).trans (State.onStation_get _ 2 _)
  · refine ⟨_, ((step 0 (by decide) s).trans (step 1 (by decide) _)).trans (step 2 (by decide) _), rfl, ?_,
      fun k q _ here => here⟩
    exact State.onStation_get _ 3 _

theorem State.endTests_closed {s : State} {k : Nat} {q : Record} (here : s.store.At k q)
    (closed : q.closed = true) : s.endTests.store.At k q :=
  resetTest_closed (resetTest_closed (resetTest_closed (resetTest_closed here closed 0) closed 1) closed 2) closed 3

theorem State.endTests_bare (s : State) : s.endTests.lib.bare = s.lib.bare := by
  have each (t : State) (i : StNo) : (t.onStation i Bench.resetTest).lib.bare = t.lib.bare :=
    (t.bench i).resetTest_bare
  rw [State.endTests, each, each, each, each]

theorem State.endTests_idCounter (s : State) : s.endTests.store.idCounter = s.store.idCounter := by
  have each (t : State) (i : StNo) : (t.onStation i Bench.resetTest).store.idCounter = t.store.idCounter :=
    (t.bench i).resetTest_idCounter
  rw [State.endTests, each, each, each, each]

/-- The reset of one station among the four: the id queued and the flags. -/
theorem resetTest_queues {s : State} (agree : s.RecordsAgree) {i : StNo}
    (busy : (s.stations.get i).sc.state ≠ .idle) :
    (s.onStation i Bench.resetTest).store.closeQueue =
      s.store.closeQueue ++ [(s.stations.get i).sc.recordId] ∧
    (s.onStation i Bench.resetTest).flags = s.flags.setReportReady := by
  obtain ⟨-, -, -, -, -, -, flagged, -, store, -⟩ := Bench.resetTest_spec (b := s.bench i) busy
  have held : (s.stations.get i).held = some (s.stations.get i).sc.recordId := if_neg busy
  obtain ⟨queued, -⟩ := Bench.resetStore_eq (b := s.bench i) ((State.recordsAgree_iff s).1 agree) held
  exact ⟨(congrArg Store.closeQueue store).trans queued, flagged⟩

theorem resetTest_still {s : State} {i : StNo} (idle : (s.stations.get i).sc.state = .idle) :
    (s.onStation i Bench.resetTest).store = s.store ∧ (s.onStation i Bench.resetTest).flags = s.flags := by
  have same : (s.bench i).resetTest = s.bench i := Bench.resetTest_of_idle idle
  rw [State.onStation, same]
  exact ⟨rfl, rfl⟩

/-- The stations reset one after another, each once, where records and stations agree: the ids queued and the
flags. -/
theorem resets_spec {l : List StNo} (once : l.Nodup) {s : State} (agree : s.RecordsAgree) :
    let t := l.foldl (fun t i => t.onStation i Bench.resetTest) s
    t.store.closeQueue = s.store.closeQueue ++ (l.filter fun i => (s.stations.get i).sc.state ≠ .idle).map
      (fun i => (s.stations.get i).sc.recordId) ∧
    ((∃ i ∈ l, (s.stations.get i).sc.state ≠ .idle) → t.flags = s.flags.setReportReady) ∧
    ((∀ i ∈ l, (s.stations.get i).sc.state = .idle) → t.flags = s.flags) := by
  induction l generalizing s with
  | nil => simp
  | cons i l ih =>
    obtain ⟨new, once⟩ := List.nodup_cons.1 once
    have others : ∀ j ∈ l, (s.onStation i Bench.resetTest).stations.get j = s.stations.get j :=
      fun j mem => s.onStation_get_ne (by rintro rfl; exact new mem) _
    have filters : (l.filter fun j => ((s.onStation i Bench.resetTest).stations.get j).sc.state ≠ .idle) =
        l.filter fun j => (s.stations.get j).sc.state ≠ .idle :=
      List.filter_congr fun j mem => by rw [others j mem]
    have ids : (l.filter fun j => (s.stations.get j).sc.state ≠ .idle).map
          (fun j => ((s.onStation i Bench.resetTest).stations.get j).sc.recordId) =
        (l.filter fun j => (s.stations.get j).sc.state ≠ .idle).map fun j => (s.stations.get j).sc.recordId :=
      List.map_congr_left fun j mem => by rw [others j (List.mem_of_mem_filter mem)]
    obtain ⟨queue, flagged, still⟩ := ih once
      ((s.leads_onStation i (Bench.leads_resetTest _)).keeps (fun _ _ h => h.move) agree)
    rw [filters, ids] at queue
    have flagged' (busy : ∃ j ∈ l, (s.stations.get j).sc.state ≠ .idle) :=
      flagged (by obtain ⟨j, mem, busy⟩ := busy; exact ⟨j, mem, by rwa [others j mem]⟩)
    have still' (idle : ∀ j ∈ l, (s.stations.get j).sc.state = .idle) :=
      still fun j mem => by rw [others j mem, idle j mem]
    dsimp only at queue flagged' still' ⊢
    rw [List.foldl_cons, queue]
    by_cases idle : (s.stations.get i).sc.state = .idle
    · obtain ⟨store, flags⟩ := resetTest_still idle
      rw [List.filter_cons_of_neg (by simpa using idle), store]
      rw [flags] at flagged' still'
      refine ⟨rfl, fun ⟨j, mem, busy⟩ => flagged' ⟨j, ?_, busy⟩, fun all => still' fun j mem =>
        all j (List.mem_cons_of_mem _ mem)⟩
      obtain rfl | mem := List.mem_cons.1 mem
      · exact absurd idle busy
      · exact mem
    · obtain ⟨queued, flags⟩ := resetTest_queues agree idle
      rw [List.filter_cons_of_pos (by simpa using idle), queued, List.map_cons, List.append_assoc,
        List.singleton_append]
      rw [flags] at flagged' still'
      refine ⟨rfl, fun _ => ?_, fun all => absurd (all i List.mem_cons_self) idle⟩
      by_cases busy : ∃ j ∈ l, (s.stations.get j).sc.state ≠ .idle
      · exact flagged' busy
      · push Not at busy
        exact still' busy

end Sys2Proof.Machine
end

section
/-! SUPPORT. CELL_RESET as a whole (O33). -/

namespace Sys2Proof.Machine

/-! ### One station -/

theorem State.cellReset_get (z : State) (i : StNo) :
    z.cellReset.stations.get i = (z.endTests.stations.get i).cellReset := by
  fin_cases i <;> rfl

/-- A test that has ended stays so for another unit of the same attempts, void count and window. -/
theorem Bench.TestEnded.of_aw {b c : Bench} {a : AngleUnit} (h : b.TestEnded (c.setAw a))
    (same : ∀ g, b.st.sc.segment = some g → b.st.point ≠ none → c.st.aw.state = .inactive ∧ c.st.aw.attempts = a.attempts ∧
      c.st.aw.voids = a.voids ∧ c.st.aw.window = a.window) : b.TestEnded c := by
  obtain ⟨segment, rest⟩ := h
  refine ⟨fun g seg => ?_, rest⟩
  obtain ⟨none, point, listen⟩ := segment g seg
  refine ⟨none, point, fun listens => ?_⟩
  obtain ⟨inactive, attempts, voids, window⟩ := same g seg listens
  obtain ⟨-, attempts', voids', window'⟩ := listen listens
  exact ⟨inactive, attempts.trans attempts', voids.trans voids', fun h => window.trans (window' h)⟩

theorem AngleUnit.endListen_twice (a : AngleUnit) : a.endListen.endListen = a.endListen := rfl

theorem Bench.awUnheard_endListen {b : Bench} (listens : b.st.point ≠ none) :
    b.awUnheard.endListen = b.awUnheard := by
  obtain ⟨p, listens⟩ := Option.ne_none_iff_exists'.1 listens
  rw [Bench.awUnheard, listens]
  exact AngleUnit.endListen_twice _

/-- A station after CELL_RESET. -/
theorem State.cellReset_station {z : State} {i : StNo}
    (settled : (z.stations.get i).sc.state = .idle →
      (z.stations.get i).sc = Context.idle ∧ (z.stations.get i).dc.Off) :
    (z.cellReset.stations.get i).sc = Context.idle ∧ (z.cellReset.stations.get i).mode = .hold ∧
      (z.cellReset.stations.get i).dc.Off ∧
      (z.cellReset.stations.get i).ou = { (z.stations.get i).ou with
        pass := false, reject := .ready, pulseTimer := 0, recoveryTimer := 0, pending := 0 } ∧
      (z.cellReset.stations.get i).aw.state = .inactive ∧
      (z.cellReset.stations.get i).aw.lastAngle = none := by
  obtain ⟨p, before, -, station, -⟩ := z.endTests_at i
  have same : (p.bench i).st = z.stations.get i := before.station
  rw [State.cellReset_get, station]
  by_cases idle : (z.stations.get i).sc.state = .idle
  · obtain ⟨sc, dc⟩ := settled idle
    rw [Bench.resetTest_of_idle (by rw [same]; exact idle), same]
    exact ⟨sc, rfl, dc, rfl, rfl, rfl⟩
  · obtain ⟨sc, dc, ou, -⟩ := Bench.resetTest_spec (b := p.bench i) (by rw [same]; exact idle)
    rw [same] at ou
    exact ⟨sc, rfl, dc ▸ ⟨rfl, rfl, rfl⟩, congrArg Output.cellReset ou, rfl, rfl⟩

/-- The OPEN record of a station that is not IDLE closes in its slot. -/
theorem State.endTests_record {z : State} {i : StNo} (agree : z.RecordsAgree)
    (busy : (z.stations.get i).sc.state ≠ .idle) : ∃ b : Bench, b.st = z.stations.get i ∧ b.now = z.tb.cycle ∧
      ∀ k q, z.store.At k q → q.id = (z.stations.get i).sc.recordId → q.closed = false →
        z.endTests.store.At k (b.resetRecord q) := by
  obtain ⟨p, before, tb, -, after⟩ := z.endTests_at i
  have same : (p.bench i).st = z.stations.get i := before.station
  obtain ⟨agree', keeps⟩ := before.records agree busy
  have busy' : (p.bench i).st.sc.state ≠ .idle := by rw [same]; exact busy
  have held : (p.stations.get i).held = some (p.bench i).st.sc.recordId := if_neg busy'
  obtain ⟨-, -, -, -, -, -, -, -, store, -⟩ := Bench.resetTest_spec busy'
  refine ⟨p.bench i, same, congrArg Timebase.cycle tb, fun k q here own isOpen => after k _ rfl ?_⟩
  rw [store]
  exact (Bench.resetStore_eq (b := p.bench i) ((State.recordsAgree_iff p).1 agree') held).2 k q
    (keeps k q here own) (by rw [own, same]) isOpen

/-- The test of a station that is not IDLE ends. -/
theorem State.cellReset_ended {z : State} {i : StNo} (agree : z.RecordsAgree)
    (busy : (z.stations.get i).sc.state ≠ .idle) : (z.bench i).TestEnded (z.cellReset.bench i) := by
  obtain ⟨p, before, -, station, -⟩ := z.endTests_at i
  have same : (p.bench i).st = (z.bench i).st := before.station
  obtain ⟨sc, -, -, point, lu, aw, -⟩ := Bench.resetTest_spec (b := p.bench i) (by rw [same]; exact busy)
  have after : (z.cellReset.bench i).st = (p.bench i).resetTest.st.cellReset := by
    rw [State.bench_st, State.cellReset_get, station]
  have segment : (z.cellReset.bench i).st.sc.segment = none := by
    rw [after]
    exact congrArg Context.segment sc
  obtain ⟨-, -, unheard⟩ := Bench.entries_congr same
  refine Bench.TestEnded.of_aw (a := (z.bench i).awUnheard) (Bench.testEnded_of segment (fun g seg => ⟨?_, rfl⟩)
    ?_ fun k q here own isOpen => ?_) fun g seg listens => ?_
  · show (z.cellReset.bench i).st.point = none
    rw [after]
    exact point
  · show (z.cellReset.bench i).st.lu = _
    rw [after, ← same]
    exact lu
  · obtain ⟨b, same', -, records⟩ := State.endTests_record agree busy
    obtain ⟨abandon, abort, -⟩ := Bench.entries_congr (b := b) (c := z.bench i) same'
    refine ⟨_, records k q here own isOpen, ?_⟩
    rw [← abandon, ← abort]
    exact ⟨rfl, rfl, rfl⟩
  · have ended := ((p.bench i).abandonSegment_listen.1 g (by rw [same]; exact seg)).2
    rw [ended, unheard, Bench.awUnheard_endListen listens] at aw
    rw [after, ← aw]
    exact ⟨rfl, rfl, rfl, rfl⟩

/-! ### The whole cell -/

theorem HeadEntry.cellReset_spec (h : HeadEntry) :
    h.cellReset.state = .unsynced ∧ h.cellReset.expected = 0 ∧ h.cellReset.run = 0 ∧
      h.cellReset.values = Slow.all none ∧ h.cellReset.fresh = Slow.all false ∧ h.cellReset.used = 0 ∧
      h.cellReset.signalled = false := ⟨rfl, rfl, rfl, rfl, rfl, rfl, rfl⟩

theorem State.cellReset_idle (z : State) (i : StNo) : (z.cellReset.stations.get i).sc.state = .idle := by
  rw [State.cellReset_get]
  exact z.endTests_idle i

/-- No entry of the tables is in use after CELL_RESET where the counts are those of the users. -/
theorem State.cellReset_inUse {z : State} (recipes : z.RecipeCounts) (uses : z.UseCounts) (e : Entry) :
    z.cellReset.lib.inUse e = 0 := by
  have recipes' : z.cellReset.RecipeCounts := z.leads_cellReset.keeps (fun _ _ h => h.move) recipes
  have uses' : z.cellReset.UseCounts := z.leads_cellReset.keeps (fun _ _ h => h.move) uses
  rw [State.recipeCounts_iff] at recipes'
  rw [State.useCounts_iff] at uses'
  obtain ⟨-, counts⟩ := recipes'
  obtain ⟨inStep, free, variants, limits, angles⟩ := uses'
  have count : z.cellReset.Counts e := by
    cases e with
    | variant k => exact variants k
    | recipe r => exact counts r
    | limits n => exact limits n
    | angle n => exact angles n
  refine count.trans (State.users_eq_zero fun i => ?_)
  exact Bench.unused_of_inStep (b := z.cellReset.bench i) (inStep i) (.inr fun idle => free i idle)
    (z.cellReset_idle i)

theorem verdictOf_cellReset (m : Basis) : verdictOf m (some .cellReset) =
    if m.fault = true ∨ m.safety = true then .faulted else .aborted := by
  simp [verdictOf]

theorem Bench.endEntry_safety (b : Bench) (q : Record) :
    (b.abortEntry (b.abandonEntry q)).basis.safety = q.basis.safety := by
  have abandon : (b.abandonEntry q).basis.safety = q.basis.safety := by
    unfold Bench.abandonEntry
    cases b.st.sc.segment with
    | none => rfl
    | some g =>
      dsimp only
      unfold Record.addSegment
      split <;> rfl
  unfold Bench.abortEntry Bench.leakResultEntry
  cases b.st.lu with
  | none => exact abandon
  | some a =>
    dsimp only
    split
    · split <;> exact abandon
    · exact abandon

theorem Bench.resetRecord_spec (b : Bench) (q : Record) :
    (b.resetRecord q).id = q.id ∧ (b.resetRecord q).stopReason = some .cellReset ∧
      (b.resetRecord q).closeStamp = some b.now ∧ (b.resetRecord q).verdict =
        some (if q.basis.fault = true ∨ q.basis.safety = true then .faulted else .aborted) := by
  obtain ⟨-, -, fault⟩ := b.endEntry_defects q
  refine ⟨(b.endEntry_keepsIdentity q).1, rfl, rfl, ?_⟩
  rw [← fault, ← b.endEntry_safety q, ← verdictOf_cellReset]
  rfl

/-- Where records and stations agree. -/
theorem State.cellReset_records {z : State} (agree : z.RecordsAgree) :
    ((∃ i, (z.stations.get i).sc.state ≠ .idle) → z.cellReset.flags = { z.flags with reportReady := true }) ∧
    ((∀ i, (z.stations.get i).sc.state = .idle) → z.cellReset.flags = z.flags) ∧
    (∀ k q, z.cellReset.store.At k q → q.closed = true) ∧
    (∀ k q, z.store.At k q → q.closed = false → ∃ q', z.cellReset.store.At k q' ∧ q'.id = q.id ∧
      q'.stopReason = some .cellReset ∧ q'.closeStamp = some z.tb.cycle ∧
      q'.verdict = some (if q.basis.fault = true ∨ q.basis.safety = true then .faulted else .aborted)) ∧
    z.cellReset.store.closeQueue = z.store.closeQueue ++
      (allStations.filter fun i => (z.stations.get i).sc.state ≠ .idle).map
        fun i => (z.stations.get i).sc.recordId := by
  have agree' : z.cellReset.RecordsAgree := z.leads_cellReset.keeps (fun _ _ h => h.move) agree
  obtain ⟨queue, flagged, still⟩ := resets_spec (l := allStations) (by decide) agree
  have every (i : StNo) : i ∈ allStations := by fin_cases i <;> decide
  refine ⟨fun ⟨i, busy⟩ => flagged ⟨i, every i, busy⟩, fun idle => still fun i _ => idle i, fun k q here => ?_,
    fun k q here isOpen => ?_, queue⟩
  · obtain ⟨-, -, -, -, -, owned, -⟩ := agree'
    by_contra isOpen
    exact (owned k q here (Bool.eq_false_iff.2 isOpen)).1 (z.cellReset_idle _)
  · obtain ⟨-, -, -, -, -, owned, -⟩ := id agree
    obtain ⟨busy, own⟩ := owned k q here isOpen
    obtain ⟨b, -, now, records⟩ := State.endTests_record agree busy
    obtain ⟨id, reason, stamp, verdict⟩ := b.resetRecord_spec q
    exact ⟨_, records k q here own.symm isOpen, id, reason, now ▸ stamp, verdict⟩

/-- What CELL_RESET leaves of the rest. -/
theorem State.endTests_rest (z : State) : z.endTests.heads = z.heads ∧ z.endTests.tb = z.tb ∧
    z.endTests.rp = z.rp ∧ z.endTests.setups = z.setups ∧ z.endTests.cell = z.cell ∧
    z.endTests.queue = z.queue ∧ z.endTests.formatErrors = z.formatErrors :=
  ⟨rfl, rfl, rfl, rfl, rfl, rfl, rfl⟩

theorem State.cellReset_heads (z : State) : z.cellReset.heads = z.heads.map HeadEntry.cellReset := rfl

theorem State.cellReset_counters (z : State) :
    z.cellReset.heads.map (fun h => (h.gap, h.outOfOrder, h.resync, h.lastStamp)) =
      z.heads.map fun h => (h.gap, h.outOfOrder, h.resync, h.lastStamp) := by
  rw [State.cellReset_heads, List.map_map]
  rfl

/-- Settles O33: each station's test ends by itself, the records close in station order, and the rest is set or
kept field by field. -/
theorem cellResetClearsTheCell : Obligations.CellResetClearsTheCell := by
  intro s r asks settled
  have recipes (h : s.RecipeCounts) : s.settle.RecipeCounts := s.leads_settle.keeps (fun _ _ h => h.move) h
  have uses (h : s.UseCounts) : s.settle.UseCounts := s.leads_settle.keeps (fun _ _ h => h.move) h
  have agrees (h : s.RecordsAgree) : s.settle.RecordsAgree := s.leads_settle.keeps (fun _ _ h => h.move) h
  have reply : Replies .cellReset s r ⟨s.settle.cellReset, .done, .none, [0]⟩ := replies_of_asks asks rfl rfl
  generalize s.settle = z at *
  obtain ⟨-, tb, rp, setups, cell, queue, formatErrors⟩ := z.endTests_rest
  refine ⟨z.cellReset, reply, rfl, rfl, fun i => State.cellReset_station (settled i), z.endTests_bare,
    z.endTests_idCounter, ?_, fun h mem => ?_, z.cellReset_counters, tb, rp, setups, cell, queue, formatErrors,
    fun hr hu => State.cellReset_inUse (recipes hr) (uses hu), fun agree => ?_⟩
  · rw [State.cellReset_heads, List.length_map]
  · rw [State.cellReset_heads] at mem
    obtain ⟨x, -, rfl⟩ := List.mem_map.1 mem
    exact x.cellReset_spec
  · obtain ⟨flagged, still, closed, opened, queue⟩ := State.cellReset_records (agrees agree)
    exact ⟨flagged, still, closed, fun k q here isClosed => State.endTests_closed here isClosed,
      fun i busy => State.cellReset_ended (agrees agree) busy, opened, queue⟩

end Sys2Proof.Machine
end

section
/-! SUPPORT. Which steps a piece of work or a step can make due: at most one, and how many follow it. -/

namespace Sys2Proof.Machine

variable (b : Bench)

/-! ### What leaves the work that waits -/

@[simp] theorem Bench.recordDefect_todo (c : DefectCode) : (b.recordDefect c).st.todo = b.st.todo := rfl

@[simp] theorem Bench.leakDefect_todo (n : Nat) (c : Option DefectCode) :
    (b.leakDefect n c).st.todo = b.st.todo := by
  rw [Bench.leakDefect_eq]
  rfl

@[simp] theorem Bench.fixLeak_todo (o : LeakOutcome) (r : Option LeakReason) (c : Option DefectCode) :
    (b.fixLeak o r c).st.todo = b.st.todo := by
  unfold Bench.fixLeak
  split
  · split
    · rw [Bench.placeLeak_eq]
      exact Bench.leakDefect_todo _ _ _
    · rfl
  · rfl

@[simp] theorem Bench.finishSegment_todo (g : Segment) (o : SegOutcome) :
    (b.finishSegment g o).st.todo = b.st.todo := by
  rw [Bench.finishSegment_eq]
  rfl

@[simp] theorem Bench.closeRecord_todo (silent : Bool) : (b.closeRecord silent).st.todo = b.st.todo := by
  by_cases idle : b.st.sc.state = .idle
  · rw [Bench.closeRecord, if_pos idle]
  · exact (Bench.closeRecord_rest idle silent).2.2.2.2.2.1

@[simp] theorem Bench.enterStopping_todo (kind : StopKind) (reason : StopReason) :
    (b.enterStopping kind reason).st.todo = b.st.todo := by
  cases driving : b.st.sc.state.driving with
  | false => rw [Bench.enterStopping_of_not_driving kind reason driving]
  | true =>
    obtain ⟨-, -, -, -, -, -, -, -, todo, -⟩ := b.halted_rest reason
    rw [Bench.enterStopping_of_driving kind reason driving]
    cases kind <;> exact todo

@[simp] theorem Bench.faultTest_todo (c : DefectCode) : (b.faultTest c).st.todo = b.st.todo :=
  (b.recordDefect c).enterStopping_todo _ _

@[simp] theorem Bench.follow_todo : b.follow.st.todo = b.st.todo := by
  rw [Bench.follow_eq]
  rfl

@[simp] theorem Bench.holdAt_todo (why : HoldReason) (k : Nat) : (b.holdAt why k).st.todo = b.st.todo := by
  rw [Bench.holdAt_eq]
  rfl

@[simp] theorem Bench.endOfTest_todo : b.endOfTest.st.todo = b.st.todo := by
  by_cases busy : b.leakBusy = true
  · rw [Bench.endOfTest_of_busy busy]
    rfl
  · rw [Bench.endOfTest_of_free busy, Bench.closeRecord_todo]

@[simp] theorem Bench.takeUp_todo (g : Segment) (k : Nat) : (b.takeUp g k).st.todo = b.st.todo := by
  rw [Bench.takeUp_rest]
  rfl

@[simp] theorem Bench.startLeak_todo (p : LeakParams) : (b.startLeak p).st.todo = b.st.todo := by
  rw [Bench.startLeak_eq]
  rfl

@[simp] theorem Bench.faultListen_todo (c : DefectCode) (k : Nat) : (b.faultListen c k).st.todo = b.st.todo :=
  Bench.faultTest_todo _ c

@[simp] theorem Bench.writePoint_todo : b.writePoint.st.todo = b.st.todo := by
  unfold Bench.writePoint
  split <;> rfl

/-! ### Stepping -/

@[simp] theorem Bench.afterSegment_todo (o : SegOutcome) : (b.afterSegment o).bench.st.todo = b.st.todo := by
  unfold Bench.afterSegment
  split
  · simp
  · simp
  · split <;> simp
  · rfl

@[simp] theorem Bench.call_todo (r k : Nat) : (b.call r k).bench.st.todo = b.st.todo := by
  unfold Bench.call
  split
  · simp
  · split
    · simp
    · split <;> simp

@[simp] theorem Bench.chainTo_todo (r : Nat) : (b.chainTo r).bench.st.todo = b.st.todo := by
  unfold Bench.chainTo
  split
  · simp
  · split
    · simp
    · split <;> rfl

@[simp] theorem Bench.finish_todo : b.finish.bench.st.todo = b.st.todo := by
  unfold Bench.finish
  split <;> simp

@[simp] theorem Bench.beginListen_todo (g : Segment) (k n r most limit : Nat) :
    (b.beginListen g k n r most limit).bench.st.todo = b.st.todo := by
  unfold Bench.beginListen
  split
  · simp
  · split
    · simp
    · dsimp only
      split <;> simp

@[simp] theorem Bench.beginSegment_todo (g : Segment) (k : Nat) :
    (b.beginSegment g k).bench.st.todo = b.st.todo := by
  unfold Bench.beginSegment
  split
  · simp
  · dsimp only
    split <;> simp
  · dsimp only
    split <;> simp
  · simp

@[simp] theorem Begun.next_todo (g : Segment) (x : Begun) : (x.next g).bench.st.todo = x.bench.st.todo := by
  cases x <;> simp [Begun.next]

@[simp] theorem Bench.reachOne_todo (k : Nat) : (b.reachOne k).bench.st.todo = b.st.todo := by
  unfold Bench.reachOne
  split
  · simp
  · split
    · simp
    · simp
    · simp
    · split <;> simp

/-! ### Steps that fall due -/

/-- How many steps follow one another from a due step on, at most: RUNAWAY brings no other; a step that ends a
segment brings RUNAWAY alone; one that ends a window brings LISTEN_CUT_OFF, which ends a segment. -/
def StEvent.chain : StEvent → Nat
  | .runaway => 1
  | .windowClose _ _ => 3
  | .slow => 3
  | .fill => 3
  | _ => 2

theorem StEvent.chain_le (e : StEvent) : e.chain ≤ 3 := by
  cases e <;> simp [StEvent.chain]

variable {b}

/-- `c` has the work of `b`, or one more step due in front of it, of a chain of at most `n`. -/
def Bench.Raises (n : Nat) (b c : Bench) : Prop :=
  c.st.todo = b.st.todo ∨ ∃ e : StEvent, e.chain ≤ n ∧ c.st.todo = .due e :: b.st.todo

variable {c d : Bench} {n : Nat}

theorem Bench.Raises.none (same : c.st.todo = b.st.todo) : b.Raises n c := .inl same

theorem Bench.Raises.one {e : StEvent} (same : c.st.todo = b.st.todo) (short : e.chain ≤ n) :
    b.Raises n (c.raise e) := .inr ⟨e, short, by rw [← same]; rfl⟩

theorem Bench.Raises.after (h : c.Raises n d) (same : c.st.todo = b.st.todo) : b.Raises n d := by
  unfold Bench.Raises at h ⊢
  rwa [same] at h

theorem Bench.Raises.before (h : b.Raises n c) (same : d.st.todo = c.st.todo) : b.Raises n d := by
  unfold Bench.Raises
  rwa [same]

theorem Bench.Raises.mono {m : Nat} (h : b.Raises n c) (le : n ≤ m) : b.Raises m c :=
  h.imp id fun ⟨e, short, raised⟩ => ⟨e, short.trans le, raised⟩

/-- A choice between what raises and what does not. -/
theorem Bench.Raises.ite {p : Prop} [Decidable p] (yes : b.Raises n c) (no : b.Raises n d) :
    b.Raises n (if p then c else d) := by
  split
  · exact yes
  · exact no

/-! ### The steps -/

variable (b)

/-- Stepping makes RUNAWAY due, or nothing. -/
theorem advance_raises (m k : Nat) : b.Raises 1 (advance m k b) := by
  induction m generalizing k b with
  | zero => exact .none rfl
  | succ m ih =>
    rw [advance_succ]
    split
    · exact .one rfl le_rfl
    · have same := b.countSegment.reachOne_todo k
      split
      next c reached =>
        rw [reached] at same
        exact .none same
      next j c reached =>
        rw [reached] at same
        exact (ih c j).after same

theorem Bench.endSegment_raises (o : SegOutcome) : b.Raises 1 (b.endSegment o) := by
  unfold Bench.endSegment
  split
  next g _ _ =>
    have same : ((b.finishSegment g o).afterSegment o).bench.st.todo = b.st.todo := by simp
    cases flow : (b.finishSegment g o).afterSegment o with
    | halt c =>
      rw [flow] at same
      exact .none same
    | reach k c =>
      rw [flow] at same
      exact (advance_raises c 257 k).after same
  · exact .none rfl

theorem Bench.finishPoint_raises : b.Raises 1 b.finishPoint :=
  .ite ((b.writePoint.endSegment_raises _).after b.writePoint_todo) (.none rfl)

theorem Bench.testCutOff_raises : b.Raises 2 b.testCutOff := .ite (.one rfl le_rfl) (.none rfl)

theorem Bench.voidWindow_raises (r : VoidReason) (speed : Option Nat) : b.Raises 2 (b.voidWindow r speed) :=
  .ite ((Bench.testCutOff_raises _).after rfl) (.none rfl)

theorem Bench.testStart_todo (x : SampleSet) (step : Int) : (b.testStart x step).st.todo = b.st.todo := by
  unfold Bench.testStart Bench.startWindow
  split
  · split <;> rfl
  · rfl

theorem Bench.windowClose_raises (x : SampleSet) (step : Int) : b.Raises 2 (b.windowClose x step) := by
  unfold Bench.windowClose
  split
  next w p pt _ _ _ =>
    refine .ite ?_ (.ite ?_ (.ite ?_ ?_))
    · exact .ite (b.voidWindow_raises _ _) ((b.voidWindow_raises _ _).before (Bench.testStart_todo _ x step))
    · exact ((Bench.finishPoint_raises _).after rfl).mono (by decide)
    · exact .one rfl le_rfl
    · exact .none (Bench.testStart_todo _ x step)
  · exact .none rfl

theorem Bench.tellLeakDone_raises : b.Raises 1 b.tellLeakDone := by
  unfold Bench.tellLeakDone
  split
  · exact .ite (b.endSegment_raises _) (.none rfl)
  · exact .none (b.closeRecord_todo _)
  · exact .ite (.none (b.closeRecord_todo _)) (.none rfl)
  · exact .none rfl

theorem Bench.leakDone_todo : b.leakDone.st.todo = b.st.todo := by
  unfold Bench.leakDone
  split <;> rfl

theorem Bench.ventTimeout_raises : b.Raises 1 b.ventTimeout := by
  unfold Bench.ventTimeout
  split
  · exact (Bench.tellLeakDone_raises _).after ((Bench.leakDone_todo _).trans (b.leakDefect_todo _ _))
  · exact .none rfl

theorem Bench.fill_raises : b.Raises 2 b.fill := by
  unfold Bench.fill
  split
  · exact (Bench.voidWindow_raises _ _ _).after rfl
  · exact .none rfl

theorem Bench.endBlock_todo : b.endBlock.st.todo = b.st.todo := by
  unfold Bench.endBlock
  split
  · split
    · dsimp only
      split <;> exact Bench.fixLeak_todo _ _ _ _
    · rfl
  · rfl

theorem Bench.grossLeak_todo : b.grossLeak.st.todo = b.st.todo := by
  unfold Bench.grossLeak
  split
  · exact Bench.fixLeak_todo _ _ _ _
  · rfl

theorem Bench.leakUnit_todo : b.settlePhase.st.todo = b.st.todo ∧ b.measure.st.todo = b.st.todo ∧
    b.startBlock.st.todo = b.st.todo := by
  refine ⟨?_, ?_, ?_⟩
  · unfold Bench.settlePhase
    split <;> rfl
  · unfold Bench.measure
    split <;> rfl
  · unfold Bench.startBlock
    split
    · split <;> rfl
    · rfl

theorem Bench.stopComplete_todo : b.stopComplete.st.todo = b.st.todo := by
  unfold Bench.stopComplete
  split
  · exact b.closeRecord_todo _
  · rfl

theorem Bench.stopTimeout_todo : b.stopTimeout.st.todo = b.st.todo := by
  unfold Bench.stopTimeout
  split
  · exact Bench.closeRecord_todo _ _
  · rfl

/-- A step makes at most one other due, with fewer to follow. -/
theorem Bench.perform_raises (e : StEvent) : b.Raises (e.chain - 1) (b.perform e) := by
  obtain ⟨settle, measure, start⟩ := b.leakUnit_todo
  cases e with
  | feedbackLost => exact .none (b.trip_todo _)
  | speedDeviation =>
    refine .ite ((Bench.endSegment_raises _ _).after ((Bench.writePoint_todo _).trans ?_)) (.none rfl)
    split <;> rfl
  | torqueLimit => exact .ite ((Bench.endSegment_raises _ _).after rfl) (.none rfl)
  | rampDone => exact .ite (b.endSegment_raises _) (.none rfl)
  | speedNotReached => exact .ite ((Bench.endSegment_raises _ _).after rfl) (.none rfl)
  | dwellDone => exact .ite (b.endSegment_raises _) (.none rfl)
  | leakWaitTimeout => exact .ite ((Bench.endSegment_raises _ _).after (b.fixLeak_todo _ _ _)) (.none rfl)
  | runaway => exact .none (b.faultTest_todo _)
  | stopComplete => exact .none b.stopComplete_todo
  | stopTimeout => exact .none b.stopTimeout_todo
  | pulseEnd => exact .none rfl
  | recoveryEnd => exact .none rfl
  | windowClose x step => exact b.windowClose_raises x step
  | slow => exact b.voidWindow_raises _ _
  | listenCutOff => exact b.finishPoint_raises
  | listenTimeLimit => exact b.finishPoint_raises
  | fill => exact b.fill_raises
  | supplyWaitLimit => exact .none (b.fixLeak_todo _ _ _)
  | settle => exact .none settle
  | grossLeak => exact .none b.grossLeak_todo
  | measure => exact .none measure
  | startBlock => exact .none start
  | endBlock => exact .none b.endBlock_todo
  | disturbed => exact .none (b.fixLeak_todo _ _ _)
  | ventDone => exact (Bench.tellLeakDone_raises _).after b.leakDone_todo
  | ventTimeout => exact b.ventTimeout_raises

/-! ### The pieces of work -/

theorem Bench.raise_raises (e : StEvent) : b.Raises 3 (b.raise e) := .one rfl e.chain_le

theorem Bench.trips_raises : b.Raises 3 b.trips := by
  by_cases idle : b.st.sc.state = .idle
  · exact .none (by rw [Bench.trips, if_pos idle])
  · rw [Bench.trips_of_busy idle]
    split
    · exact .inr ⟨.feedbackLost, by decide, rfl⟩
    · exact .none rfl

theorem Bench.form_todo : b.form.st.todo = b.st.todo := by
  unfold Bench.form
  split
  · rfl
  · exact Bench.follow_todo _

theorem Bench.superviseRuns_todo : b.superviseRuns.st.todo = b.st.todo := by
  unfold Bench.superviseRuns
  dsimp only
  split
  · split <;> rfl
  · rfl

theorem Bench.supervise_raises : b.Raises 3 b.supervise := by
  have same := b.superviseRuns_todo
  unfold Bench.supervise
  split
  · refine .ite (.one same (by decide)) (.ite (.one same (by decide)) ?_)
    split
    next e _ => exact .one same e.chain_le
    · exact .none same
  · exact .none rfl

theorem Bench.outputWork_raises : b.Raises 3 b.outputWork := by
  unfold Bench.outputWork
  split
  · exact .none rfl
  · dsimp only
    split
    · exact .ite (.one rfl (by decide)) (.none rfl)
    · exact .ite (.one rfl (by decide)) (.none rfl)
    · exact .none rfl

theorem Bench.collect_raises (x : SampleSet) (step : Int) : b.Raises 3 (b.collect x step) := by
  unfold Bench.collect
  split
  · refine .ite (.one rfl le_rfl) (.ite (.none rfl) (.ite (.ite (.ite (.none rfl) (.one rfl le_rfl)) ?_) ?_))
    · exact ((Bench.voidWindow_raises _ _ _).after rfl).mono (by decide)
    · exact ((Bench.voidWindow_raises _ _ _).after rfl).mono (by decide)
  · exact .none rfl

theorem Bench.sampleSet_raises (x : SampleSet) : b.Raises 3 (b.sampleSet x) := by
  unfold Bench.sampleSet
  dsimp only
  split
  · exact .none rfl
  · split
    · exact .none rfl
    · exact .none (Bench.testStart_todo _ _ _)
    · exact (Bench.collect_raises _ _ _).after rfl

theorem Bench.workPhase_raises (a : Activity) : b.Raises 3 (b.workPhase a) := by
  unfold Bench.workPhase
  split
  · exact .ite (b.raise_raises _) (.ite (b.raise_raises _) (.none rfl))
  · unfold Bench.workFill
    split
    · exact .ite (b.raise_raises _) (.ite (b.raise_raises _) (.none rfl))
    · exact .ite (b.raise_raises _) (.none rfl)
  · exact .ite (b.raise_raises _) (.none rfl)
  · split
    · exact .ite (.one rfl (by decide)) (.ite (.one rfl (by decide)) (.none rfl))
    · exact .ite (.none rfl) (.ite (.one rfl (by decide)) (.ite (.one rfl (by decide)) (.none rfl)))
  · unfold Bench.workVent
    split
    · exact .ite (b.raise_raises _) (.ite (b.raise_raises _) (.none rfl))
    · exact .ite (b.raise_raises _) (.none rfl)
  · exact .none rfl

theorem Bench.leakWork_raises : b.Raises 3 b.leakWork := by
  unfold Bench.leakWork
  split
  · exact .none rfl
  · refine .ite (.none rfl) ?_
    split
    · exact .none rfl
    · exact .none rfl
    · exact (Bench.workPhase_raises _ _).after rfl

/-- A piece of work makes at most one step due, and at most three steps follow one another. -/
theorem Bench.work_raises (t : Todo) : b.Raises 3 (b.work t) := by
  have void (x : Bench) (r : VoidReason) (same : x.st.todo = b.st.todo) : b.Raises 3 (x.voidWindow r none) :=
    ((x.voidWindow_raises r none).after same).mono (by decide)
  cases t with
  | timers => exact .none rfl
  | outputs => exact b.outputWork_raises
  | absent => exact void b _ rfl
  | gap => exact void _ _ rfl
  | sampleSet x => exact b.sampleSet_raises x
  | trips => exact b.trips_raises
  | form => exact .none b.form_todo
  | supervise => exact b.supervise_raises
  | ready => exact .none rfl
  | stopTest => exact .ite (b.raise_raises _) (.none rfl)
  | leakWork => exact b.leakWork_raises
  | steadyTest => exact .ite (.none rfl) (void b _ rfl)
  | listenLimit =>
    show b.Raises 3 b.listenLimit
    unfold Bench.listenLimit
    split
    · exact .ite (b.raise_raises _) (.none rfl)
    · exact .none rfl
  | stopLimit => exact .ite (.ite (b.raise_raises _) (b.raise_raises _)) (.none rfl)
  | due e => exact .none rfl

end Sys2Proof.Machine
end

section
/-! SUPPORT. Settling: the turns that a list of work takes, within a bench and within the machine. -/

namespace Sys2Proof.Machine

/-! ### The turns of a list of work -/

/-- How many steps follow one another from a piece of work on, at most. -/
def Todo.chain : Todo → Nat
  | .due e => e.chain
  | _ => 3

/-- How many steps follow one another from a list of work on, at most. -/
def stepsOf (ts : List Todo) : Nat := (ts.map Todo.chain).sum

/-- How many turns of settling a list of work takes, at most: one for each step, and one to come to the first. -/
def turnsOf : List Todo → Nat
  | [] => 0
  | .due e :: rest => stepsOf (.due e :: rest)
  | t :: rest => stepsOf (t :: rest) + 1

theorem stepsOf_cons (t : Todo) (ts : List Todo) : stepsOf (t :: ts) = t.chain + stepsOf ts := List.sum_cons

theorem StEvent.chain_pos (e : StEvent) : 1 ≤ e.chain := by cases e <;> simp [StEvent.chain]

theorem Todo.chain_of_piece {t : Todo} (piece : ∀ e, t ≠ .due e) : t.chain = 3 := by
  cases t with
  | due e => exact absurd rfl (piece e)
  | _ => rfl

theorem Todo.chain_bounds (t : Todo) : 1 ≤ t.chain ∧ t.chain ≤ 3 := by
  cases t with
  | due e => exact ⟨e.chain_pos, e.chain_le⟩
  | _ => exact ⟨Nat.le_add_left 1 2, le_rfl⟩

theorem turnsOf_of_piece {t : Todo} (piece : ∀ e, t ≠ .due e) (rest : List Todo) :
    turnsOf (t :: rest) = stepsOf (t :: rest) + 1 := by
  cases t with
  | due e => exact absurd rfl (piece e)
  | _ => rfl

theorem stepsOf_le (ts : List Todo) : stepsOf ts ≤ 3 * ts.length := by
  induction ts with
  | nil => rfl
  | cons t ts ih =>
    have short := t.chain_bounds.2
    rw [stepsOf_cons, List.length_cons]
    omega

theorem turnsOf_le (ts : List Todo) : turnsOf ts ≤ stepsOf ts + 1 := by
  unfold turnsOf
  split
  · omega
  · omega
  · exact le_rfl

/-- The turns that settling allows are enough. -/
theorem turnsOf_le_workBound (ts : List Todo) : turnsOf ts ≤ workBound ts := by
  have turns := turnsOf_le ts
  have steps := stepsOf_le ts
  unfold workBound
  omega

theorem turnsOf_pos {ts : List Todo} (some : ts ≠ []) : 1 ≤ turnsOf ts := by
  obtain ⟨t, rest, rfl⟩ := List.exists_cons_of_ne_nil some
  by_cases step : ∃ e, t = .due e
  · obtain ⟨e, rfl⟩ := step
    exact e.chain_pos.trans (Nat.le_add_right _ _)
  · rw [turnsOf_of_piece fun e h => step ⟨e, h⟩]
    exact Nat.le_add_left _ _

/-! ### One turn of a bench -/

/-- The bench stands before a due step or has no work left, with at most `n` steps to follow. -/
def Bench.Stands (n : Nat) (b : Bench) : Prop :=
  (b.st.todo = [] ∨ ∃ e rest, b.st.todo = .due e :: rest) ∧ stepsOf b.st.todo ≤ n

theorem Bench.Stands.turns {n : Nat} {b : Bench} (h : b.Stands n) : turnsOf b.st.todo ≤ n := by
  obtain ⟨none | ⟨e, rest, due⟩, few⟩ := h
  · rw [none]
    exact Nat.zero_le n
  · rw [due] at few ⊢
    exact few

/-- The work behind a piece or a step that has made at most one step due. -/
theorem Bench.Raises.goOn {b c : Bench} {n : Nat} {rest : List Todo} (h : b.Raises n c) (empty : b.st.todo = [])
    (run : ∀ d : Bench, (runWork rest d).Stands (stepsOf rest)) : (c.goOn rest).Stands (n + stepsOf rest) := by
  rw [Bench.Raises, empty] at h
  obtain none | ⟨e, short, one⟩ := h
  · rw [Bench.goOn_of_nil none]
    obtain ⟨stands, few⟩ := run c
    exact ⟨stands, few.trans (Nat.le_add_left _ n)⟩
  · rw [Bench.goOn_of_ne (by rw [one]; exact List.cons_ne_nil _ _), one]
    exact ⟨.inr ⟨e, rest, rfl⟩, (stepsOf_cons _ _).le.trans (Nat.add_le_add_right short _)⟩

theorem runWork_stands (ts : List Todo) (b : Bench) : (runWork ts b).Stands (stepsOf ts) := by
  induction ts generalizing b with
  | nil => exact ⟨.inl rfl, le_rfl⟩
  | cons t rest ih =>
    by_cases step : ∃ e, t = .due e
    · obtain ⟨e, rfl⟩ := step
      exact ⟨.inr ⟨e, rest, rfl⟩, le_rfl⟩
    · have piece : ∀ e, t ≠ .due e := fun e h => step ⟨e, h⟩
      rw [runWork_cons piece, stepsOf_cons, Todo.chain_of_piece piece]
      exact ((b.setTodo []).work_raises t).goOn rfl ih

/-- One turn of settling: the due step in front, or the work up to the first due step. -/
def Bench.turn (b : Bench) : Bench :=
  match b.st.todo with
  | [] => b
  | .due e :: rest => b.fire e rest
  | ts => runWork ts b

theorem Bench.turn_of_due {b : Bench} {e : StEvent} {rest : List Todo} (due : b.st.todo = .due e :: rest) :
    b.turn = b.fire e rest := by
  simp only [Bench.turn, due]

theorem Bench.turn_of_piece {b : Bench} {t : Todo} {rest : List Todo} (todo : b.st.todo = t :: rest)
    (piece : ∀ e, t ≠ .due e) : b.turn = runWork (t :: rest) b := by
  unfold Bench.turn
  rw [todo]
  cases t with
  | due e => exact absurd rfl (piece e)
  | _ => rfl

/-- A turn leaves fewer turns. -/
theorem Bench.turn_turns {b : Bench} (some : b.st.todo ≠ []) :
    turnsOf b.turn.st.todo + 1 ≤ turnsOf b.st.todo := by
  obtain ⟨t, rest, todo⟩ := List.exists_cons_of_ne_nil some
  by_cases step : ∃ e, t = .due e
  · obtain ⟨e, rfl⟩ := step
    have stands : (b.fire e rest).Stands (e.chain - 1 + stepsOf rest) :=
      ((b.setTodo []).perform_raises e).goOn rfl (runWork_stands rest)
    have turns := stands.turns
    have pos := e.chain_pos
    have all : turnsOf (.due e :: rest) = e.chain + stepsOf rest := stepsOf_cons _ _
    rw [Bench.turn_of_due todo, todo, all]
    omega
  · have piece : ∀ e, t ≠ .due e := fun e h => step ⟨e, h⟩
    rw [Bench.turn_of_piece todo piece, todo, turnsOf_of_piece piece]
    exact Nat.add_le_add_right (runWork_stands _ b).turns 1

/-! ### Turns that are enough -/

/-- Turns taken one after another until nothing is left: any fuel that covers the turns left gives the same, and
nothing is left then. -/
theorem turns_enough {α : Type} {f : Nat → α → α} {turn : α → α} {left : α → Nat}
    (still : ∀ n a, left a = 0 → f n a = a) (next : ∀ n a, left a ≠ 0 → f (n + 1) a = f n (turn a))
    (less : ∀ a, left a ≠ 0 → left (turn a) + 1 ≤ left a) {n m : Nat} {a : α} (hn : left a ≤ n)
    (hm : left a ≤ m) : f n a = f m a ∧ left (f n a) = 0 := by
  induction n generalizing m a with
  | zero =>
    have none : left a = 0 := Nat.le_zero.1 hn
    rw [still 0 a none, still m a none]
    exact ⟨rfl, none⟩
  | succ n ih =>
    by_cases none : left a = 0
    · rw [still _ a none, still m a none]
      exact ⟨rfl, none⟩
    · have fewer := less a none
      obtain ⟨m, rfl⟩ : ∃ k, m = k + 1 := ⟨m - 1, by omega⟩
      rw [next n a none, next m a none]
      exact ih (by omega) (by omega)

theorem turnsOf_eq_zero {ts : List Todo} : turnsOf ts = 0 ↔ ts = [] := by
  refine ⟨fun none => ?_, fun none => by rw [none]; rfl⟩
  by_contra some
  exact absurd none (Nat.one_le_iff_ne_zero.1 (turnsOf_pos some))

/-! ### Settling within a bench -/

theorem settleWork_of_nil {b : Bench} (none : b.st.todo = []) (n : Nat) : settleWork n b = b := by
  cases n with
  | zero => rfl
  | succ n => simp only [settleWork, none]

theorem settleWork_turn {b : Bench} (some : b.st.todo ≠ []) (n : Nat) :
    settleWork (n + 1) b = settleWork n b.turn := by
  obtain ⟨t, rest, todo⟩ := List.exists_cons_of_ne_nil some
  by_cases step : ∃ e, t = .due e
  · obtain ⟨e, rfl⟩ := step
    rw [Bench.turn_of_due todo]
    simp only [settleWork, todo]
  · have piece : ∀ e, t ≠ .due e := fun e h => step ⟨e, h⟩
    rw [Bench.turn_of_piece todo piece]
    cases t with
    | due e => exact absurd rfl (piece e)
    | _ => simp only [settleWork, todo]

theorem settleWork_enough {n m : Nat} {b : Bench} (hn : turnsOf b.st.todo ≤ n) (hm : turnsOf b.st.todo ≤ m) :
    settleWork n b = settleWork m b :=
  (turns_enough (f := settleWork) (left := fun c => turnsOf c.st.todo)
    (fun n _ none => settleWork_of_nil (turnsOf_eq_zero.1 none) n)
    (fun n _ some => settleWork_turn (mt turnsOf_eq_zero.2 some) n)
    (fun _ some => Bench.turn_turns (mt turnsOf_eq_zero.2 some)) hn hm).1

theorem Bench.settle_turn {b : Bench} (some : b.st.todo ≠ []) : b.settle = b.turn.settle := by
  have turn := Bench.turn_turns some
  have enough := turnsOf_le_workBound b.st.todo
  calc b.settle
      = settleWork (workBound b.st.todo + 1) b := settleWork_enough enough (Nat.le_succ_of_le enough)
    _ = settleWork (workBound b.st.todo) b.turn := settleWork_turn some _
    _ = b.turn.settle := settleWork_enough (by omega) (turnsOf_le_workBound _)

theorem Bench.settle_of_nil {b : Bench} (none : b.st.todo = []) : b.settle = b := settleWork_of_nil none _

/-! ### Settling within a station of the machine -/

/-- One turn of station `i`; a frame that has become ready may then go (R7). -/
def State.turnAt (i : StNo) (s : State) : State := (s.putBench i (s.bench i).turn).pump

/-- The turns left to station `i`. -/
def State.turnsAt (i : StNo) (s : State) : Nat := turnsOf (s.stations.get i).todo

theorem runWork_setTodo {t : Todo} (piece : ∀ e, t ≠ .due e) (rest us : List Todo) (b : Bench) :
    runWork (t :: rest) (b.setTodo us) = runWork (t :: rest) b := by
  rw [runWork_cons piece, runWork_cons piece]
  rfl

theorem State.turnAt_of_due {s : State} {i : StNo} {e : StEvent} {rest : List Todo} (due : s.Due i e rest) :
    s.turnAt i = s.fireAt i e rest := by
  rw [State.turnAt, Bench.turn_of_due (b := s.bench i) due]
  rfl

theorem State.turnAt_of_piece {s : State} {i : StNo} {t : Todo} {rest : List Todo}
    (todo : (s.stations.get i).todo = t :: rest) (piece : ∀ e, t ≠ .due e) :
    s.turnAt i = s.resumeWith i (t :: rest) (s.desk i) := by
  rw [State.turnAt, Bench.turn_of_piece (b := s.bench i) todo piece, State.resumeWith,
    Bench.goOn_of_nil (b := s.desk i) rfl, State.desk, runWork_setTodo piece]

theorem State.turnAt_todo (s : State) (i : StNo) :
    ((s.turnAt i).stations.get i).todo = (s.bench i).turn.st.todo := by
  show ((s.turnAt i).bench i).st.todo = _
  rw [State.turnAt, State.pump_bench, State.bench_st, State.putBench_get]

theorem State.turnAt_get_ne (s : State) {i j : StNo} (ne : j ≠ i) :
    (s.turnAt i).stations.get j = s.stations.get j := by
  show ((s.turnAt i).bench j).st = _
  rw [State.turnAt, State.pump_bench, State.bench_st, State.putBench_get_ne _ _ _ _ ne]

theorem State.settleAt_of_nil {s : State} {i : StNo} (none : (s.stations.get i).todo = []) (n : Nat) :
    s.settleAt i n = s := by
  cases n with
  | zero => rfl
  | succ n => simp only [State.settleAt, none]

theorem State.settleAt_turn {s : State} {i : StNo} (some : (s.stations.get i).todo ≠ []) (n : Nat) :
    s.settleAt i (n + 1) = (s.turnAt i).settleAt i n := by
  obtain ⟨t, rest, todo⟩ := List.exists_cons_of_ne_nil some
  by_cases step : ∃ e, t = .due e
  · obtain ⟨e, rfl⟩ := step
    rw [State.turnAt_of_due todo]
    simp only [State.settleAt, todo]
  · have piece : ∀ e, t ≠ .due e := fun e h => step ⟨e, h⟩
    rw [State.turnAt_of_piece todo piece]
    cases t with
    | due e => exact absurd rfl (piece e)
    | _ => simp only [State.settleAt, todo]

theorem State.settleAt_enough {n m : Nat} {s : State} {i : StNo} (hn : s.turnsAt i ≤ n) (hm : s.turnsAt i ≤ m) :
    s.settleAt i n = s.settleAt i m ∧ ((s.settleAt i n).stations.get i).todo = [] := by
  obtain ⟨same, none⟩ := turns_enough (f := State.settleAt i) (left := State.turnsAt i)
    (fun n _ none => State.settleAt_of_nil (turnsOf_eq_zero.1 none) n)
    (fun n _ some => State.settleAt_turn (mt turnsOf_eq_zero.2 some) n)
    (fun t some => by
      rw [State.turnsAt, State.turnAt_todo]
      exact Bench.turn_turns (b := t.bench i) (mt turnsOf_eq_zero.2 some)) hn hm
  exact ⟨same, turnsOf_eq_zero.1 none⟩

theorem State.settleStation_turn {s : State} {i : StNo} (some : (s.stations.get i).todo ≠ []) :
    s.settleStation i = (s.turnAt i).settleStation i := by
  have turn := Bench.turn_turns (b := s.bench i) some
  have enough := turnsOf_le_workBound (s.stations.get i).todo
  rw [← State.turnAt_todo] at turn
  calc s.settleStation i
      = s.settleAt i (workBound (s.stations.get i).todo + 1) :=
        (State.settleAt_enough enough (Nat.le_succ_of_le enough)).1
    _ = (s.turnAt i).settleAt i (workBound (s.stations.get i).todo) := State.settleAt_turn some _
    _ = (s.turnAt i).settleStation i :=
        (State.settleAt_enough (by rw [State.turnsAt]; exact (Nat.le_of_lt turn).trans enough)
          (turnsOf_le_workBound _)).1

theorem State.settleStation_todo (s : State) (i : StNo) : ((s.settleStation i).stations.get i).todo = [] :=
  (State.settleAt_enough (turnsOf_le_workBound _) (turnsOf_le_workBound _)).2

theorem State.settleStation_get_ne (s : State) {i j : StNo} (ne : j ≠ i) :
    (s.settleStation i).stations.get j = s.stations.get j := by
  unfold State.settleStation
  generalize workBound (s.stations.get i).todo = n
  induction n generalizing s with
  | zero => rfl
  | succ n ih =>
    by_cases none : (s.stations.get i).todo = []
    · rw [State.settleAt_of_nil none]
    · rw [State.settleAt_turn none, ih, State.turnAt_get_ne s ne]

end Sys2Proof.Machine
end

section
/-! SUPPORT. Settling the stations and the heads (O54). -/

namespace Sys2Proof.Machine

/-! ### The stations -/

theorem State.settleStations_allDone (s : State) : s.settleStations.AllDone := by
  intro i
  have own := fun (t : State) (j : StNo) => t.settleStation_todo j
  have keep (t : State) (j k : StNo) (ne : j ≠ k) (done : (t.stations.get j).todo = []) :
      ((t.settleStation k).stations.get j).todo = [] := by rw [t.settleStation_get_ne ne, done]
  unfold State.settleStations
  fin_cases i
  · exact keep _ 0 3 (by decide) (keep _ 0 2 (by decide) (keep _ 0 1 (by decide) (own _ 0)))
  · exact keep _ 1 3 (by decide) (keep _ 1 2 (by decide) (own _ 1))
  · exact keep _ 2 3 (by decide) (own _ 2)
  · exact own _ 3

theorem State.settleStations_of_allDone {s : State} (done : s.AllDone) : s.settleStations = s := by
  rw [State.settleStations, State.settleStation_of_nil (done 0), State.settleStation_of_nil (done 1),
    State.settleStation_of_nil (done 2), State.settleStation_of_nil (done 3)]

theorem State.settleStations_twice (s : State) : s.settleStations.settleStations = s.settleStations :=
  State.settleStations_of_allDone s.settleStations_allDone

theorem State.AllDone.pump {s : State} (done : s.AllDone) : s.pump.AllDone := fun i => by
  show (s.pump.bench i).st.todo = []
  rw [State.pump_bench]
  exact done i

/-! ### The heads -/

/-- The run of the node's entry, if it has one, has not reached 3 (R15). -/
def State.Quiet (n : Nat) (s : State) : Prop := ∀ h, headOf s.heads n = some h → h.run < 3

theorem State.settleHead_of_quiet {s : State} {n : Nat} (quiet : s.Quiet n) : s.settleHead n = s := by
  obtain ⟨h, there, lost, -⟩ | ⟨-, same⟩ := s.settleHead_cases n
  · exact absurd (quiet h there) (Nat.not_lt_of_le lost)
  · exact same

theorem State.settleHead_of_lost {s : State} {n : Nat} {h : HeadEntry} (there : headOf s.heads n = some h)
    (lost : 3 ≤ h.run) : s.settleHead n = s.loseHead n := by
  obtain ⟨-, -, -, same⟩ | ⟨quiet, -⟩ := s.settleHead_cases n
  · exact same
  · exact absurd (quiet h there) (Nat.not_lt_of_le lost)

theorem State.loseHead_settled (s : State) (n : Nat) : s.settleStations.loseHead n = s.loseHead n := by
  rw [State.loseHead, State.settleStations_twice, State.loseHead]

/-- LOSS_OF_SYNC of each of the nodes that is due, then the stations, then the side (R7, R15). -/
def State.settleHeads (ns : List Nat) (s : State) : State := (ns.foldl State.settleHead s).settleStations.pump

/-- The stations' work first or not: the heads settle alike. -/
theorem State.settleHeads_settled (ns : List Nat) (s : State) :
    s.settleStations.settleHeads ns = s.settleHeads ns := by
  induction ns generalizing s with
  | nil => exact congrArg State.pump s.settleStations_twice
  | cons n ns ih =>
    obtain ⟨h, there, lost, same⟩ | ⟨quiet, same⟩ := s.settleHead_cases n
    · have there' : headOf s.settleStations.heads n = some h := by rw [s.settleStations_heads, there]
      simp only [State.settleHeads, List.foldl_cons, same, State.settleHead_of_lost there' lost,
        State.loseHead_settled]
    · have quiet' : s.settleStations.Quiet n := fun h there => quiet h (by rwa [s.settleStations_heads] at there)
      simp only [State.settleHeads, List.foldl_cons, same, State.settleHead_of_quiet quiet']
      exact ih s

theorem State.settle_eq (s : State) : s.settle = s.settleHeads nodes := s.settleHeads_settled nodes

theorem State.foldl_quiet {ns : List Nat} {s : State} (quiet : ∀ n ∈ ns, s.Quiet n) :
    ns.foldl State.settleHead s = s := by
  induction ns with
  | nil => rfl
  | cons n ns ih =>
    rw [List.foldl_cons, State.settleHead_of_quiet (quiet n List.mem_cons_self)]
    exact ih fun m mem => quiet m (List.mem_cons_of_mem _ mem)

theorem State.settleHeads_of_quiet {ns : List Nat} {s : State} (quiet : ∀ n ∈ ns, s.Quiet n) :
    s.settleHeads ns = s.settleStations.pump := by
  rw [State.settleHeads, State.foldl_quiet quiet]

theorem State.settleHeads_split {before after : List Nat} {n : Nat} {s : State}
    (quiet : ∀ m ∈ before, s.Quiet m) :
    s.settleHeads (before ++ n :: after) = (s.settleHead n).settleHeads after := by
  rw [State.settleHeads, List.foldl_append, State.foldl_quiet quiet]
  rfl

theorem mem_nodes {n : Nat} : n ∈ nodes ↔ 1 ≤ n ∧ n ≤ 30 := by
  simp only [nodes, Config.nodes, List.mem_map, List.mem_range]
  constructor
  · rintro ⟨k, below, rfl⟩
    omega
  · rintro ⟨low, high⟩
    exact ⟨n - 1, by omega, by omega⟩

/-- The nodes before one of them are the lower ones. -/
theorem nodes_split {n : Nat} (mem : n ∈ nodes) :
    ∃ before after, nodes = before ++ n :: after ∧ ∀ m ∈ before, m < n := by
  obtain ⟨before, after, split⟩ := List.append_of_mem mem
  have sorted : nodes.Pairwise (· < ·) := by decide
  rw [split, List.pairwise_append] at sorted
  exact ⟨before, after, split, fun m hm => sorted.2.2 m hm n List.mem_cons_self⟩

theorem State.loseHead_heads {s : State} {n : Nat} {h : HeadEntry} (there : headOf s.heads n = some h) :
    (s.loseHead n).heads = putHead s.heads n h.unsync := by
  rw [State.loseHead_eq there, State.pump_heads, State.handAll_heads]

/-- Once the lowest node's LOSS_OF_SYNC is done, settling goes on from there. -/
theorem State.settle_loseHead {s : State} {n : Nat} {h : HeadEntry} (mem : n ∈ nodes)
    (there : headOf s.heads n = some h) (lost : 3 ≤ h.run) (lowest : ∀ m, m < n → s.Quiet m) :
    s.settle = (s.loseHead n).settle := by
  obtain ⟨before, after, split, below⟩ := nodes_split mem
  have heads := State.loseHead_heads there
  have own : (s.loseHead n).Quiet n := fun q hq => by
    rw [heads, headOf_putHead_self there] at hq
    obtain rfl := Option.some.inj hq
    exact Nat.zero_lt_succ 2
  have others (m : Nat) (lt : m < n) : (s.loseHead n).Quiet m := fun q hq => by
    rw [heads, headOf_putHead_ne _ (Nat.ne_of_lt lt)] at hq
    exact lowest m lt q hq
  calc s.settle
      = (s.settleHead n).settleHeads after := by
        rw [State.settle_eq, split, State.settleHeads_split fun m hm => lowest m (below m hm)]
    _ = (s.loseHead n).settleHeads after := by rw [State.settleHead_of_lost there lost]
    _ = ((s.loseHead n).settleHead n).settleHeads after := by rw [State.settleHead_of_quiet own]
    _ = (s.loseHead n).settle := by
        rw [State.settle_eq, split, State.settleHeads_split fun m hm => others m (below m hm)]

/-! ### The obligation -/

/-- Settles O54: every turn of settling leaves fewer turns, so the turns allowed are enough, and more of them
change nothing. -/
theorem settlingLeavesNothingDue : Obligations.SettlingLeavesNothingDue := by
  refine ⟨fun s => (State.settleStations_allDone _).pump, fun s i => ⟨fun e rest due => ?_,
    fun t rest todo piece => ?_, State.settleStation_of_nil⟩, fun s => ⟨rfl, fun quiet => ?_,
    fun n h high there lost lowest => ?_⟩, fun b => ⟨fun e rest due => ?_, fun t rest todo piece => ?_,
    Bench.settle_of_nil⟩⟩
  · refine ⟨_, exec_of_due due, ?_⟩
    rw [State.settleStation_turn (by rw [due]; exact List.cons_ne_nil _ _), State.turnAt_of_due due]
    rfl
  · rw [State.settleStation_turn (by rw [todo]; exact List.cons_ne_nil _ _), State.turnAt_of_piece todo piece]
  · have settled : s.settle = s.settleStations.pump := by
      rw [State.settle_eq]
      exact State.settleHeads_of_quiet fun n mem h there => quiet n h there (mem_nodes.1 mem).2
    exact ⟨settled, fun done => by rw [settled, State.settleStations_of_allDone done]⟩
  · have low := (headOf_eq_some.1 there).1
    refine ⟨s.loseHead n, ?_, State.settle_loseHead (mem_nodes.2 ⟨low, high⟩) there lost
      fun m lt q hq => lowest m q lt hq⟩
    rw [exec_lossOfSync_of_head low high there, if_pos (by simpa [HeadEntry.lost] using lost)]
  · have turn : b.settle = (((b.setTodo []).perform e).goOn rest).settle := by
      rw [Bench.settle_turn (by rw [due]; exact List.cons_ne_nil _ _), Bench.turn_of_due due]
      rfl
    intro c
    exact ⟨fun none => by rw [turn, Bench.goOn_of_nil none], fun some => by rw [turn, Bench.goOn_of_ne some]⟩
  · rw [Bench.settle_turn (by rw [todo]; exact List.cons_ne_nil _ _), Bench.turn_of_piece todo piece, todo]

end Sys2Proof.Machine
end
